-- ==== Sys2Proof/Syntax.lean ====
section
/-! DEFINITION. The commands of the block: one constructor per row of spec/opcode_table.json, with the row's operands. -/

namespace Sys2Proof

/-- The two lines of the Service Bus (R1). -/
inductive BusLine where
  | sbck
  | sbdt
  deriving DecidableEq, Repr

/-- Whose count of REFCLK periods runs out at PHASE_COUNT_END: the part as controller, that is the engine or the recovery sequence (R2, R169), or the Responder (R132, R158). -/
inductive PhaseCount where
  | controller
  | responder
  deriving DecidableEq, Repr

/-- One command or event of the part (spec/opcode_table.json). -/
inductive Instr where
  /-- SUBMIT (R34): the host writes the command word with code 0x01. -/
  | submit
  /-- CANCEL (R121): code 0x02, the argument is a tag. -/
  | cancel (arg : BitVec 16)
  /-- POP_COMPLETION (R119): code 0x03. -/
  | popCompletion
  /-- POP_NOTIFY (R165): code 0x04. -/
  | popNotify
  /-- NODE_WRITE (R73): code 0x10. -/
  | nodeWrite
  /-- NODE_REMOVE (R75): code 0x11, the argument is a node address. -/
  | nodeRemove (arg : BitVec 16)
  /-- NODE_RESUME (R76): code 0x12, the argument is a node address. -/
  | nodeResume (arg : BitVec 16)
  /-- WINDOW_WRITE (R127): code 0x20, the argument is a window index. -/
  | windowWrite (arg : BitVec 16)
  /-- WINDOW_ENABLE (R128): code 0x21, the argument is a window index. -/
  | windowEnable (arg : BitVec 16)
  /-- WINDOW_DISABLE (R129): code 0x22, the argument is a window index. -/
  | windowDisable (arg : BitVec 16)
  /-- HOLD_WINDOW (R151): code 0x23, the argument is a window index. -/
  | holdWindow (arg : BitVec 16)
  /-- RELEASE_WINDOW (R153): code 0x24, the argument is a window index. -/
  | releaseWindow (arg : BitVec 16)
  /-- PORT_ENABLE (R173): code 0x30. -/
  | portEnable
  /-- PORT_DISABLE (R174): code 0x31. -/
  | portDisable
  /-- RECOVER (R178): code 0x32. -/
  | recover
  /-- SOFT_RESET (R181): code 0x3F. -/
  | softReset
  /-- BAD_COMMAND (R189): a command word with a code that the table of R189 does not list. -/
  | badCommand (code : BitVec 8)
  /-- PORT_CONFIGURATION_WRITE (R170): a whole write of word 0x001. -/
  | portConfigurationWrite (w : BitVec 32)
  /-- TIMING_CONFIGURATION_WRITE (R171): a whole write of word 0x002. -/
  | timingConfigurationWrite (w : BitVec 32)
  /-- QUEUE_LIMITS_WRITE (R42): a whole write of word 0x003. -/
  | queueLimitsWrite (w : BitVec 32)
  /-- EVENTS_WRITE (R191): a whole write of word 0x006. -/
  | eventsWrite (w : BitVec 32)
  /-- EVENT_ENABLES_WRITE (R192): a whole write of word 0x007. -/
  | eventEnablesWrite (w : BitVec 32)
  /-- REGISTER_WRITE (R188): a whole write of any other word, with its word address. -/
  | registerWrite (addr : BitVec 9) (w : BitVec 32)
  /-- SPI_HEADER (R184, R185): the 16 header bits, the last one taken. -/
  | spiHeader (header : BitVec 16)
  /-- SPI_TRANSACTION_END (R184): CS# rises. -/
  | spiTransactionEnd
  /-- RST (R183): RST# was low and rises; the levels of CS#, SBCK and SBDT as it rises (log 15). -/
  | rst (csHigh sbckHigh sbdtHigh : Bool)
  /-- MS_TICK (R168). -/
  | msTick
  /-- DEADLINE_EXPIRY (R57, R58) of a slot's timer. -/
  | deadlineExpiry (slot : Fin 32)
  /-- BACKOFF_EXPIRY (R67) of a node entry. -/
  | backoffExpiry (entry : Fin 16)
  /-- WAIT_TIMEOUT (R92). -/
  | waitTimeout
  /-- STALL_EXPIRY (R159). -/
  | stallExpiry
  /-- LINE_QUIET (R19). -/
  | lineQuiet
  /-- LINE_ACTIVE (R18): a line reads low while the line state is QUIET. -/
  | lineActive (line : BusLine)
  /-- LINE_STUCK (R21). -/
  | lineStuck
  /-- ENGINE_START (R79). -/
  | engineStart
  /-- ARB_LOST (R81). -/
  | arbLost
  /-- ARB_WON (R82). -/
  | arbWon
  /-- ENGINE_CLAIM (R86). -/
  | engineClaim
  /-- ENGINE_RESPONSE_SLOT (R87, R89). -/
  | engineResponseSlot
  /-- BUS_FAULT (R83, R84). -/
  | busFault
  /-- RESTART (R95). -/
  | restart
  /-- STOP (R97). -/
  | stop
  /-- RELEASED (R97). -/
  | released
  /-- BUS_START (R5). -/
  | busStart
  /-- BUS_STOP (R5). -/
  | busStop
  /-- CLAIM_DECISION (R136). -/
  | claimDecision
  /-- RESPONDER_CLAIM (R137). -/
  | responderClaim
  /-- READ_RESPONSE_SLOT (R140). -/
  | readResponseSlot
  /-- COMMIT (R142). -/
  | commit
  /-- WRITE_CHECK_FAIL (R143). -/
  | writeCheckFail
  /-- RECOVERY_PULSE (R179). -/
  | recoveryPulse
  /-- RECOVERY_DONE (R180). -/
  | recoveryDone
  /-- RECOVERY_FAILED (R180). -/
  | recoveryFailed
  /-- SBCK_RISE (R5): `early` says that SBCK rose before the Responder's 10 REFCLK periods had passed (R2; log 8). -/
  | sbckRise (early : Bool)
  /-- SBCK_FALL (R4). -/
  | sbckFall
  /-- PHASE_COUNT_END (R3). -/
  | phaseCountEnd (count : PhaseCount)
  /-- SBDT_CHANGE (R21): SBDT changes while SBCK is low. -/
  | sbdtChange
  /-- CS_FALL (R184). -/
  | csFall
  deriving DecidableEq, Repr

end Sys2Proof
end

