-- ==== Sys2Proof/Decode.lean ====
section
/-! DEFINITION. The decoder over the opcode table's bits: the table gives no row any bits, so no word spells a command. -/

namespace Sys2Proof

/-- The command that a word spells by the bits of spec/opcode_table.json: every row has no fields and no fixed bits there, so none. The command word's own codes (R189) are read by `Sys2Proof.Machine.issueCommand`. -/
def decodeTableWord (_nbits _w : Nat) : Option Instr := none

end Sys2Proof
end

