-- ==== Sys2Proof/Config.lean ====
section
/-! DEFINITION. What the part fixes: the constants its spec gives. The spec leaves no value of a result undefined, so no free value stands here (log 23). -/

namespace Sys2Proof.Config

/-- REFCLK periods of one ms tick (R168). -/
def refclkPerMs : Nat := 16000

/-- REFCLK periods from a fall of SBCK to the Responder's change of SBDT (R2, R132), and from a stall's first claim bit to the release of SBCK (R158). -/
def responderDelay : Nat := 10

/-- The longest recovery, in pulses (R179). -/
def maxPulses : Nat := 16

/-- Places of the notify queue (R155, R164). -/
def notifyDepth : Nat := 16

/-- Bytes of page memory (R147). -/
def pageBytes : Nat := 1024

/-- The smallest and largest BIT_DIV that PORT_ENABLE accepts (R170), and the bounds of the quiet timer's own Tb (R19). -/
def bitDivMin : Nat := 40
def bitDivMax : Nat := 1600

/-- The largest quiet time in Tb (R19): the count kept by the quiet timer goes no further (log 27). -/
def quietMax : Nat := 128

/-- The identification word (R188). -/
def identification : BitVec 32 := 0x07160001#32

end Sys2Proof.Config
end

