-- ==== Sys2Proof/Word.lean ====
section
/-! DEFINITION. The word types of the part: a byte of 8 bits and a register window word of 32 bits (00_scope.md, Numbers and units). -/

namespace Sys2Proof

/-- 8 bits (00_scope.md, Numbers and units). -/
abbrev Byte := BitVec 8

/-- 32 bits, one word of the register window (00_scope.md, Numbers and units). -/
abbrev Word := BitVec 32

end Sys2Proof
end

