-- ==== Sys2Proof/Machine/State.lean ====
section
/-! DEFINITION. The state of the B716 as plain data, block by block (00_scope.md, Block overview), its value after RST#, and the reasons a step can stop. -/

namespace Sys2Proof.Machine

/-! ### Request Store -/

/-- Frame kinds (R10, R25). -/
inductive Kind where
  | write
  | read
  | probe
  deriving DecidableEq, Repr

/-- A frame descriptor of a chain (R25). -/
structure Frame where
  dest : Byte
  kind : Kind
  offset : Byte
  length : Nat
  deriving DecidableEq, Repr

/-- The three dispatch queues (R40). -/
inductive QueueName where
  | expedite
  | standard
  | background
  deriving DecidableEq, Repr

/-- Slot states (R23). -/
inductive SlotState where
  | free
  | waiting
  | active
  | done
  deriving DecidableEq, Repr

/-- The 14 outcomes (R111). -/
inductive RequestOutcome where
  | done
  | refused
  | busy
  | noTarget
  | noResponse
  | badCheck
  | waitTimeout
  | busFault
  | busStuck
  | cancelled
  | expired
  | nodeSuspended
  | localTarget
  | portStopped
  deriving DecidableEq, Repr

/-- A slot record (section 2.3, R28). -/
structure Slot where
  state : SlotState
  tag : Option Byte
  queue : Option QueueName
  prio : BitVec 4
  chain : List Frame
  data : Vector Byte 64
  attempts : Nat
  arbLosses : Nat
  framesDone : Nat
  cancelPending : Bool
  outcome : Option RequestOutcome
  failIndex : Option Nat
  failNode : Option Byte
  deriving DecidableEq, Repr

/-- The FREE column of section 2.3 (R24). -/
def Slot.free : Slot where
  state := .free
  tag := none
  queue := none
  prio := 0
  chain := []
  data := Vector.replicate 64 0
  attempts := 0
  arbLosses := 0
  framesDone := 0
  cancelPending := false
  outcome := none
  failIndex := none
  failNode := none

/-- Request Store: the 32 slots and the tag counter (R23, R30). -/
structure Store where
  slots : Vector Slot 32
  tagCounter : Byte
  deriving DecidableEq, Repr

/-- After RST# and SOFT_RESET (R24, R30). -/
def Store.reset : Store where
  slots := Vector.replicate 32 Slot.free
  tagCounter := 1

/-! ### Dispatch Scheduler -/

/-- A deadline timer (section 3.7). `running 0` says that the tick of the expiry has come (log 4). -/
inductive DeadlineTimer where
  | off
  | running (ms : Nat)
  | lapsed
  deriving DecidableEq, Repr

/-- Dispatch Scheduler: queues, pass counters, deadline timers (R40, R51, R56). -/
structure Sched where
  exp : List (Fin 32)
  std : List (Fin 32)
  bkg : List (Fin 32)
  passStd : Nat
  passBkg : Nat
  timers : Vector DeadlineTimer 32
  deriving DecidableEq, Repr

/-- After RST# and SOFT_RESET (R43). -/
def Sched.reset : Sched where
  exp := []
  std := []
  bkg := []
  passStd := 0
  passBkg := 0
  timers := Vector.replicate 32 .off

/-! ### Node Table -/

/-- Node states (R63). -/
inductive NodeState where
  | available
  | backoff
  | suspended
  deriving DecidableEq, Repr

/-- A node entry in use (R61). -/
structure NodeEntry where
  address : Byte
  retryLimit : BitVec 3
  backoffMs : Byte
  waitLimitMs : Byte
  failThreshold : BitVec 4
  state : NodeState
  failCount : Nat
  backoffLeft : Nat
  refs : Nat
  deriving DecidableEq, Repr

/-! ### Controller Engine -/

/-- The ten engine states (section 5.2). -/
inductive EngineState where
  | idle
  | arbitrating
  | header
  | claim
  | body
  | check
  | response
  | linking
  | stopping
  | released
  deriving DecidableEq, Repr

/-- The frame position of a follower (R5). -/
inductive FramePos where
  | between
  | within (bits : Nat)
  | boundary
  deriving DecidableEq, Repr

/-- Arbitration status (R78). -/
inductive ArbStatus where
  | none
  | contending
  | won
  deriving DecidableEq, Repr

/-- Claim codes (R11). -/
inductive ClaimCode where
  | proceed
  | busy
  | refuse
  | none
  deriving DecidableEq, Repr

/-- The ten frame results (R93). -/
inductive FrameResult where
  | accepted
  | refused
  | busy
  | noTarget
  | noResponse
  | badCheck
  | waitTimeout
  | busFault
  | arbLost
  | busStuck
  deriving DecidableEq, Repr

/-- Where the part as controller is in its bit time (R2, R3, R6, R7, R92, R97). -/
inductive ClockPhase where
  /-- No clock is produced. -/
  | none
  /-- A slot is taken and the lines are read at the next REFCLK period (R79). -/
  | startDue
  /-- The Start is on the bus; one high-phase length is counted (R6). -/
  | startHold
  /-- SBCK is held low, before the midpoint (R2). -/
  | lowFirst
  /-- SBCK is held low, after the midpoint (R2). -/
  | lowSecond
  /-- SBCK is released and has not been seen high (R3). -/
  | waiting
  /-- The high phase of a bit is counted (R2). -/
  | high
  /-- The high phase of a condition, before SBDT changes (R7). -/
  | condFirst
  /-- The high phase of a Restart, after SBDT was pulled low (R7, R95). -/
  | condSecond
  /-- SBDT is released for the Stop and has not been seen high (R97). -/
  | stopWait
  /-- After WAIT_TIMEOUT: both lines released, SBCK not seen high (R92). -/
  | timeoutWait
  /-- After WAIT_TIMEOUT: the extra high phase is counted (R92). -/
  | timeoutHigh
  deriving DecidableEq, Repr

/-- Controller Engine (R78), with what it keeps of the bit and frame in progress. -/
structure Engine where
  st : EngineState
  held : Option (Fin 32)
  frameIndex : Nat
  pos : FramePos
  arb : ArbStatus
  waitLimit : Byte
  waitTimer : Option Nat
  crc : Byte
  capture : Vector Byte 32
  phase : ClockPhase
  left : Nat
  driveSbck : Bool
  driveSbdt : Bool
  sent : Option Bool
  claimFirst : Bool
  claim : Option ClaimCode
  check : Byte
  verified : Bool
  respLow : Bool
  deriving DecidableEq, Repr

/-- After RST# and SOFT_RESET (R78). -/
def Engine.reset : Engine where
  st := .idle
  held := none
  frameIndex := 0
  pos := .between
  arb := .none
  waitLimit := 1
  waitTimer := none
  crc := 0xFF
  capture := Vector.replicate 32 0
  phase := .none
  left := 0
  driveSbck := false
  driveSbdt := false
  sent := none
  claimFirst := false
  claim := none
  check := 0
  verified := false
  respLow := false

/-! ### Completion queue -/

/-- A completion record (R112), with the slot it belongs to (R114). -/
structure CompletionRecord where
  slot : Fin 32
  tag : Byte
  outcome : RequestOutcome
  framesDone : Nat
  failIndex : Option Nat
  failNode : Option Byte
  attempts : Nat
  arbLosses : Nat
  dataLength : Nat
  deriving DecidableEq, Repr

/-! ### Window table -/

/-- Access codes (R125, R126); code 3 can be stored and is refused at enable. -/
inductive Access where
  | readWrite
  | readOnly
  | writeOnly
  | code3
  deriving DecidableEq, Repr

/-- Contention policy (R125). -/
inductive Contention where
  | answerBusy
  | stall
  deriving DecidableEq, Repr

/-- Hold states (R150). -/
inductive HoldState where
  | open
  | pending
  | held
  deriving DecidableEq, Repr

/-- A window table entry (R125). -/
structure Window where
  enabled : Bool
  node : Byte
  base : BitVec 10
  size : BitVec 9
  access : Access
  notify : Bool
  contention : Contention
  stallMs : Byte
  hold : HoldState
  inFrame : Bool
  deriving DecidableEq, Repr

/-- The Reset column of R125. -/
def Window.reset : Window where
  enabled := false
  node := 0
  base := 0
  size := 0
  access := .readWrite
  notify := false
  contention := .answerBusy
  stallMs := 0
  hold := .open
  inFrame := false

/-! ### Responder -/

/-- The nine responder states (section 7.4). -/
inductive ResponderState where
  | off
  | listening
  | decoding
  | passive
  | stalling
  | claiming
  | sending
  | receiving
  | confirming
  deriving DecidableEq, Repr

/-- What the running high phase is to a follower at BOUNDARY: the high phase of the frame's last bit, or the one that must carry a condition (R5, R8; log 11). -/
inductive HighPhase where
  | plain
  | lastBit
  | condition
  deriving DecidableEq, Repr

/-- Responder (section 7.4), with what it keeps of the frame and bit in progress. -/
structure Responder where
  st : ResponderState
  pos : FramePos
  high : HighPhase
  header : BitVec 35
  crc : Byte
  sendBuf : Vector Byte 32
  intake : Vector Byte 32
  window : Option (Fin 8)
  code : ClaimCode
  claimFirst : Bool
  goesOn : Bool
  check : Byte
  verified : Bool
  driveSbck : Bool
  driveSbdt : Bool
  delay : Option Nat
  want : Bool
  commits : Bool
  release : Option Nat
  deriving DecidableEq, Repr

/-- After RST# and SOFT_RESET (R131). -/
def Responder.reset : Responder where
  st := .off
  pos := .between
  high := .plain
  header := 0
  crc := 0xFF
  sendBuf := Vector.replicate 32 0
  intake := Vector.replicate 32 0
  window := none
  code := .none
  claimFirst := false
  goesOn := false
  check := 0
  verified := false
  driveSbck := false
  driveSbdt := false
  delay := none
  want := false
  commits := false
  release := none

/-! ### Page memory -/

/-- Page memory as a list of listed bytes, addresses rising; an unlisted byte reads zero, its value after RST# (R147). -/
abbrev Memory := List Host.Cell

/-! ### Hold and Notify Unit -/

/-- A notify record (R163). -/
structure NotifyRecord where
  window : Fin 8
  offset : Byte
  length : Nat
  source : Byte
  sequence : Byte
  deriving DecidableEq, Repr

/-- Hold and Notify Unit (R156, R157, R162, R163, R164). The hold states stand in the window table. -/
structure HoldUnit where
  stallTimer : Option Nat
  stallWindow : Option (Fin 8)
  reasonHeld : Bool
  reasonFull : Bool
  queue : List NotifyRecord
  reservation : Bool
  sequence : Byte
  deriving DecidableEq, Repr

/-- After RST# and SOFT_RESET (R167). -/
def HoldUnit.reset : HoldUnit where
  stallTimer := none
  stallWindow := none
  reasonHeld := false
  reasonFull := false
  queue := []
  reservation := false
  sequence := 0

/-! ### Line Monitor -/

/-- Line states (R18). -/
inductive LineState where
  | active
  | quiet
  | stuck
  deriving DecidableEq, Repr

/-- Line Monitor (R18, R19, R21): line state, the levels last read (true is high), the quiet timer and the stuck timer. -/
structure Line where
  state : LineState
  sbck : Bool
  sbdt : Bool
  quietTb : Nat
  quietPart : Nat
  stuckMs : Nat
  stuckDue : Bool
  deriving DecidableEq, Repr

/-- After RST# with both lines high (R18; the levels are log 6). -/
def Line.reset : Line where
  state := .active
  sbck := true
  sbdt := true
  quietTb := 0
  quietPart := 0
  stuckMs := 0
  stuckDue := false

/-! ### Port Control Unit -/

/-- Port states (R172). -/
inductive PortState where
  | disabled
  | running
  | stopping
  | fault
  | recovering
  deriving DecidableEq, Repr

/-- Where the recovery sequence is (R179). -/
inductive RecoveryPhase where
  /-- No sequence runs. -/
  | none
  /-- A pulse: SBCK is held low. -/
  | pulseLow
  /-- A pulse: SBCK is released and has not been seen high. -/
  | pulseRise
  /-- A pulse: SBDT is taken and the high phase is counted. -/
  | pulseHigh
  /-- Stop phase: SBCK is held low, before the midpoint. -/
  | stopLow
  /-- Stop phase: both lines are held low. -/
  | stopData
  /-- Stop phase: SBCK is released and has not been seen high. -/
  | stopRise
  /-- Stop phase: SBCK is high and half a high phase is counted. -/
  | stopHalf
  /-- Stop phase: SBDT is released and has not been seen high. -/
  | stopEnd
  deriving DecidableEq, Repr

/-- Port Control Unit (R168, R172, R178, R179). -/
structure Port where
  state : PortState
  pulses : Nat
  period : Nat
  recovery : RecoveryPhase
  left : Nat
  taken : Bool
  driveSbck : Bool
  driveSbdt : Bool
  deriving DecidableEq, Repr

/-- After RST# (R168, R172, R178). -/
def Port.reset : Port where
  state := .disabled
  pulses := 0
  period := 0
  recovery := .none
  left := 0
  taken := false
  driveSbck := false
  driveSbdt := false

/-! ### Host Port, Event Unit, edit areas, configuration -/

/-- Result codes (R190). -/
inductive ResultCode where
  | ok
  | started
  | held
  | pending
  | cancelPending
  | tooLate
  | notFound
  | empty
  | badCommand
  | badQueue
  | badCount
  | badKind
  | badLength
  | overSize
  | badAddress
  | nodeUnknown
  | nodeSuspended
  | queueFull
  | noSlot
  | tableFull
  | nodeInUse
  | duplicate
  | badWindow
  | windowEnabled
  | windowActive
  | notHeld
  | portState
  | portConfig
  deriving DecidableEq, Repr

/-- SPI transaction states (R184, R185): no transaction; taking the header; a read; a write; ignoring everything until CS# rises. -/
inductive SpiTxn where
  | closed
  | header
  | reading
  | writing
  | ignoring
  deriving DecidableEq, Repr

/-- Host Port (R184, R187, R189, R190). -/
structure HostPort where
  txn : SpiTxn
  pointer : BitVec 9
  counter : Byte
  last : Option (ResultCode × Byte)
  frozen : List (Nat × Word)
  miso : Option Word
  shifting : Bool
  deriving DecidableEq, Repr

/-- After RST# with CS# high (R184, R190). -/
def HostPort.reset : HostPort where
  txn := .closed
  pointer := 0
  counter := 0
  last := none
  frozen := []
  miso := none
  shifting := false

/-- Event Unit (R191, R192). -/
structure EventUnit where
  flags : BitVec 11
  enables : BitVec 11
  deriving DecidableEq, Repr

/-- After RST# (R191, R192). -/
def EventUnit.reset : EventUnit where
  flags := 0
  enables := 0

/-- The staging area and the two edit areas (R31, R126, R202). -/
structure EditAreas where
  staging : Vector Word 21
  node0 : Word
  node1 : Word
  window0 : Word
  window1 : Word
  deriving DecidableEq, Repr

/-- After RST# (R33, R62, R126). -/
def EditAreas.reset : EditAreas where
  staging := Vector.replicate 21 0
  node0 := 0
  node1 := 0
  window0 := 0
  window1 := 0

/-- Port configuration, timing configuration and queue limits (R42, R52, R170, R171). -/
structure Cfg where
  ownAddr : Byte
  bitDiv : BitVec 11
  quietSel : BitVec 2
  stuckLimit : Byte
  passLimit : BitVec 4
  limitExp : BitVec 6
  limitStd : BitVec 6
  limitBkg : BitVec 6
  deriving DecidableEq, Repr

/-- After RST# (R42, R43, R170, R171). -/
def Cfg.reset : Cfg where
  ownAddr := 0
  bitDiv := 160
  quietSel := 1
  stuckLimit := 30
  passLimit := 8
  limitExp := 32
  limitStd := 32
  limitBkg := 32

/-! ### The whole part -/

/-- Everything the spec gives the part, and the queue of commands that wait, first in, first out. -/
structure State where
  pending : List Instr
  host : HostPort
  events : EventUnit
  edit : EditAreas
  cfg : Cfg
  store : Store
  sched : Sched
  nodes : Vector (Option NodeEntry) 16
  engine : Engine
  completions : List CompletionRecord
  windows : Vector Window 8
  responder : Responder
  page : Memory
  hold : HoldUnit
  line : Line
  port : Port
  deriving DecidableEq, Repr

/-- The part right after RST# (R183), with CS#, SBCK and SBDT high (log 6) and no command waiting. -/
def State.reset : State where
  pending := []
  host := HostPort.reset
  events := EventUnit.reset
  edit := EditAreas.reset
  cfg := Cfg.reset
  store := Store.reset
  sched := Sched.reset
  nodes := Vector.replicate 16 none
  engine := Engine.reset
  completions := []
  windows := Vector.replicate 8 Window.reset
  responder := Responder.reset
  page := []
  hold := HoldUnit.reset
  line := Line.reset
  port := Port.reset

/-- Why the part stops with a fault: never. The spec names no condition in which the part stops: a refused command, a bus fault, a stuck line and a malformed header each have an effect that their rules give (R34, R83, R176, R185). -/
inductive Fault where
  deriving DecidableEq, Repr

/-- Why a command has no meaning. -/
inductive Refusal where
  /-- Raised by an arm of `exec` for a command that is not modelled yet, with its mnemonic in spec/opcode_table.json; safe, since the machine stops. No arm raises it now. -/
  | notModelled (mnemonic : String)
  deriving DecidableEq, Repr

end Sys2Proof.Machine
end

