-- ==== Sys2Proof/Machine/Ops.lean ====
section
/-! DEFINITION. The named operations over State: block updates, tables, bits and bytes, the CRC, page memory, bus bit timing, and the line levels with the Line Monitor's part in them. -/

namespace Sys2Proof.Machine

/-- What a command answers. -/
abbrev Answer := Host.Outcome State Fault Refusal

/-! ### Block updates -/

def State.setPending (s : State) (x : List Instr) : State := { s with pending := x }
def State.setHost (s : State) (x : HostPort) : State := { s with host := x }
def State.setEvents (s : State) (x : EventUnit) : State := { s with events := x }
def State.setEdit (s : State) (x : EditAreas) : State := { s with edit := x }
def State.setCfg (s : State) (x : Cfg) : State := { s with cfg := x }
def State.setStore (s : State) (x : Store) : State := { s with store := x }
def State.setSched (s : State) (x : Sched) : State := { s with sched := x }
def State.setNodes (s : State) (x : Vector (Option NodeEntry) 16) : State := { s with nodes := x }
def State.setEngine (s : State) (x : Engine) : State := { s with engine := x }
def State.setCompletions (s : State) (x : List CompletionRecord) : State := { s with completions := x }
def State.setWindows (s : State) (x : Vector Window 8) : State := { s with windows := x }
def State.setResponder (s : State) (x : Responder) : State := { s with responder := x }
def State.setPage (s : State) (x : Memory) : State := { s with page := x }
def State.setHold (s : State) (x : HoldUnit) : State := { s with hold := x }
def State.setLine (s : State) (x : Line) : State := { s with line := x }
def State.setPort (s : State) (x : Port) : State := { s with port := x }

/-! ### Tables of a fixed size -/

/-- Entry i of a table. -/
def tget {α : Type} {n : Nat} (v : Vector α n) (i : Fin n) : α := v[i.val]

/-- The table with entry i replaced. -/
def tset {α : Type} {n : Nat} (v : Vector α n) (i : Fin n) (x : α) : Vector α n := v.set i.val x i.isLt

/-- The table with every entry changed by f. -/
def tmap {α β : Type} {n : Nat} (f : α → β) (v : Vector α n) : Vector β n :=
  ⟨⟨v.toList.map f⟩, by simp⟩

/-- The lowest index whose entry satisfies p. -/
def tfind {α : Type} {n : Nat} (p : α → Bool) (v : Vector α n) : Option (Fin n) :=
  (List.finRange n).find? fun i => p (tget v i)

/-- How many entries satisfy p. -/
def tcount {α : Type} {n : Nat} (p : α → Bool) (v : Vector α n) : Nat :=
  (List.finRange n).countP fun i => p (tget v i)

/-- A list as a buffer of n bytes: cut at n, and zero beyond its end. -/
def toBuffer (n : Nat) (l : List Byte) : Vector Byte n :=
  ⟨⟨(l ++ List.replicate n 0).take n⟩, by simp⟩

/-- Byte j of a buffer; zero beyond its end. -/
def bufferByte {n : Nat} (v : Vector Byte n) (j : Nat) : Byte :=
  if h : j < n then tget v ⟨j, h⟩ else 0

/-- The buffer with byte j replaced; unchanged beyond its end. -/
def bufferSet {n : Nat} (v : Vector Byte n) (j : Nat) (b : Byte) : Vector Byte n :=
  if h : j < n then tset v ⟨j, h⟩ b else v

/-! ### Bits and bytes -/

/-- Bit k of a byte in the order sent: bit 0 is the most significant (00_scope.md, Numbers and units). -/
def byteBit (b : Byte) (k : Nat) : Bool := b.getMsbD k

/-- A byte with one more bit taken in at its least significant end. -/
def shiftIn (b : Byte) (bit : Bool) : Byte := (b <<< 1) ||| (if bit then 1 else 0)

/-- A buffer that takes one more bit of its byte j, most significant bit first (R13). -/
def bufferShiftIn {n : Nat} (v : Vector Byte n) (j : Nat) (bit : Bool) : Vector Byte n :=
  bufferSet v j (shiftIn (bufferByte v j) bit)

/-- Byte k of a word, byte 0 the most significant (00_scope.md; R147). -/
def wordByte (w : Word) (k : Nat) : Byte := BitVec.ofNat 8 (w.toNat / 2 ^ (24 - 8 * k))

/-- Four bytes as a word, the first the most significant (00_scope.md; R147). -/
def wordOfBytes (b0 b1 b2 b3 : Byte) : Word := b0 ++ b1 ++ b2 ++ b3

/-! ### The check (R14) -/

/-- The CRC register after one covered bit: shifted left by one place, and exclusive-ored with 0x07 when its top bit differs from the bit (R14). -/
def crcStep (crc : Byte) (bit : Bool) : Byte :=
  if (crc.msb != bit) then (crc <<< 1) ^^^ 0x07 else crc <<< 1

/-- The CRC register at a Start (R14). -/
def crcInit : Byte := 0xFF

/-- The bit of the frame at 1-based position p is covered by the check: header and body, without the claim slot (R14); `body` is the number of body bits. -/
def crcCovers (p body : Nat) : Bool := decide (1 ≤ p ∧ p ≤ 35) || decide (38 ≤ p ∧ p ≤ 37 + body)

/-! ### Page memory (R147) -/

/-- What an unlisted byte reads as: its value after RST# (R147). -/
def Memory.unlisted : Byte := 0

/-- One byte of page memory. -/
def Memory.read : Memory → Nat → Byte
  | [], _ => Memory.unlisted
  | (k, b) :: rest, a => if k = a then b else Memory.read rest a

/-- One byte written; the list stays rising and lists no byte equal to what an unlisted byte reads as. -/
def Memory.insert : Memory → Nat → Byte → Memory
  | [], a, b => if b = Memory.unlisted then [] else [(a, b)]
  | (k, v) :: rest, a, b =>
    if a < k then (if b = Memory.unlisted then (k, v) :: rest else (a, b) :: (k, v) :: rest)
    else if a = k then (if b = Memory.unlisted then rest else (a, b) :: rest)
    else (k, v) :: Memory.insert rest a b

/-- One byte written at an address of page memory; no byte stands at 1024 or above (R147; log 17). -/
def Memory.write (m : Memory) (a : Nat) (b : Byte) : Memory :=
  if a < Config.pageBytes then m.insert a b else m

/-- Bytes written from an address up. -/
def Memory.writeBytes (m : Memory) (a : Nat) : List Byte → Memory
  | [] => m
  | b :: rest => Memory.writeBytes (m.write a b) (a + 1) rest

/-- n bytes read from an address up. -/
def Memory.readBytes (m : Memory) (a : Nat) : Nat → List Byte
  | 0 => []
  | n + 1 => m.read a :: Memory.readBytes m (a + 1) n

/-- The list is rising from `lo` up, inside page memory, and lists no byte equal to the unlisted value. -/
def Memory.wfFrom (lo : Nat) : Memory → Bool
  | [] => true
  | (k, b) :: rest =>
    decide (lo ≤ k) && decide (k < Config.pageBytes) && decide (b ≠ Memory.unlisted) && Memory.wfFrom (k + 1) rest

/-- The canonical form of page memory. -/
def Memory.wf (m : Memory) : Bool := Memory.wfFrom 0 m

/-- Word n of page memory, its byte 4n the most significant (R147). -/
def Memory.readWord (m : Memory) (n : Nat) : Word :=
  wordOfBytes (m.read (4 * n)) (m.read (4 * n + 1)) (m.read (4 * n + 2)) (m.read (4 * n + 3))

/-- A word written to page memory (R147, R148). -/
def Memory.writeWord (m : Memory) (n : Nat) (w : Word) : Memory :=
  m.writeBytes (4 * n) [wordByte w 0, wordByte w 1, wordByte w 2, wordByte w 3]

/-! ### Bit timing (R2, R7, R169) -/

/-- Low phase: BIT_DIV divided by 2, rounded up (R2). -/
def lowLen (s : State) : Nat := (s.cfg.bitDiv.toNat + 1) / 2

/-- High phase: BIT_DIV divided by 2, rounded down (R2). -/
def highLen (s : State) : Nat := s.cfg.bitDiv.toNat / 2

/-- Half a high-phase length, rounded down (R7, R169). -/
def halfHigh (s : State) : Nat := highLen s / 2

/-- The low-phase count up to its midpoint (R2), rounded down where the count is odd (log 32). -/
def midLow (s : State) : Nat := lowLen s / 2

/-- The quiet timer's Tb: the BIT_DIV held, taken as 40 below 40 and as 1600 above 1600 (R19). -/
def quietTbLen (c : Cfg) : Nat := min Config.bitDivMax (max Config.bitDivMin c.bitDiv.toNat)

/-- The quiet time in Tb: 16, 32, 64 or 128 (R19, R196). -/
def quietTime (c : Cfg) : Nat := 16 * 2 ^ c.quietSel.toNat

/-! ### Lines and the Line Monitor (R1, R18 to R21) -/

/-- The part is driving SBCK low itself (R1). -/
def ownSbck (s : State) : Bool := s.engine.driveSbck || s.responder.driveSbck || s.port.driveSbck

/-- The part is driving SBDT low itself (R1). -/
def ownSbdt (s : State) : Bool := s.engine.driveSbdt || s.responder.driveSbdt || s.port.driveSbdt

/-- A low read on a line: the quiet timer is cleared, and QUIET becomes ACTIVE (R18, R19, R20). -/
def Line.lowRead (l : Line) : Line :=
  { l with state := (if l.state = .quiet then .active else l.state), quietTb := 0, quietPart := 0 }

/-- A rise of a line clears the stuck timer (R21). -/
def Line.clearStuck (l : Line) : Line := { l with stuckMs := 0, stuckDue := false }

/-- SBCK reads low. -/
def sbckLow (s : State) : State := s.setLine { s.line.lowRead with sbck := false }

/-- SBDT reads low. -/
def sbdtLow (s : State) : State := s.setLine { s.line.lowRead with sbdt := false }

/-- SBCK is seen to rise (R21). -/
def sbckHigh (s : State) : State := s.setLine { s.line.clearStuck with sbck := true }

/-- SBDT is seen to rise (R21). -/
def sbdtHigh (s : State) : State := s.setLine { s.line.clearStuck with sbdt := true }

/-- The Line Monitor's start: ACTIVE whatever it was, both timers cleared, the levels as they are (R18). -/
def Line.restarted (l : Line) : Line :=
  { l with state := .active, quietTb := 0, quietPart := 0, stuckMs := 0, stuckDue := false }

/-- The Line Monitor starts again (R18). -/
def lineRestart (s : State) : State := s.setLine s.line.restarted

/-- The stuck timer advances at a tick: some line reads low that the part is not driving low (R21), and the line state is not STUCK (R22). -/
def stuckAdvances (s : State) : Bool :=
  s.line.state != .stuck && ((!s.line.sbck && !ownSbck s) || (!s.line.sbdt && !ownSbdt s))

/-- Both lines read high. -/
def bothHigh (s : State) : Bool := s.line.sbck && s.line.sbdt

/-! ### Engine states (section 5.2, R78, R101) -/

/-- The states from ARBITRATING to LINKING (R78). -/
def EngineState.inFrame : EngineState → Bool
  | .arbitrating | .header | .claim | .body | .check | .response | .linking => true
  | .idle | .stopping | .released => false

/-- The engine is driving the current frame: from its Start on the bus until it has lost, released at a fault or finished its Stop (R101). -/
def engineDriving (s : State) : Bool :=
  match s.engine.st with
  | .idle | .released => false
  | .arbitrating => s.engine.phase != .startDue
  | _ => true

end Sys2Proof.Machine
end

