-- ==== Sys2Proof/Machine/Flags.lean ====
section
/-! DEFINITION. Event flags and INT# (R191, R192), and the codes under which states, outcomes and results are shown (R190, R197, R199, R202, R203). -/

namespace Sys2Proof.Machine

/-- The 11 events (R191). -/
inductive Event where
  | completion
  | notify
  | holdGranted
  | stallBegun
  | nodeSuspended
  | portFault
  | recoveryDone
  | recoveryFailed
  | portStopped
  | addressClash
  | hostFormat
  deriving DecidableEq, Repr

/-- The bit position of an event (R191). -/
def eventBit : Event → Nat
  | .completion => 0
  | .notify => 1
  | .holdGranted => 2
  | .stallBegun => 3
  | .nodeSuspended => 4
  | .portFault => 5
  | .recoveryDone => 6
  | .recoveryFailed => 7
  | .portStopped => 8
  | .addressClash => 9
  | .hostFormat => 10

/-- The flag of an event alone. -/
def eventMask (e : Event) : BitVec 11 := BitVec.twoPow 11 (eventBit e)

/-- An event's flag is set; a flag already set stays set (R191). -/
def setEvent (e : Event) (s : State) : State :=
  s.setEvents { s.events with flags := s.events.flags ||| eventMask e }

/-- An event's flag as it stands. -/
def eventSet (e : Event) (s : State) : Bool := s.events.flags.getLsbD (eventBit e)

/-- INT# is driven low while a flag is set whose enable is set (R192); true is high. -/
def intHigh (s : State) : Bool := (s.events.flags &&& s.events.enables) == 0

/-- Result codes (R190). -/
def resultCode : ResultCode → Byte
  | .ok => 0x01
  | .started => 0x02
  | .held => 0x03
  | .pending => 0x04
  | .cancelPending => 0x05
  | .tooLate => 0x06
  | .notFound => 0x07
  | .empty => 0x08
  | .badCommand => 0x10
  | .badQueue => 0x11
  | .badCount => 0x12
  | .badKind => 0x13
  | .badLength => 0x14
  | .overSize => 0x15
  | .badAddress => 0x16
  | .nodeUnknown => 0x17
  | .nodeSuspended => 0x18
  | .queueFull => 0x19
  | .noSlot => 0x1A
  | .tableFull => 0x20
  | .nodeInUse => 0x21
  | .duplicate => 0x22
  | .badWindow => 0x23
  | .windowEnabled => 0x24
  | .windowActive => 0x25
  | .notHeld => 0x26
  | .portState => 0x30
  | .portConfig => 0x31

/-- Outcome codes (R199). -/
def outcomeCode : RequestOutcome → Nat
  | .done => 0
  | .refused => 1
  | .busy => 2
  | .noTarget => 3
  | .noResponse => 4
  | .badCheck => 5
  | .waitTimeout => 6
  | .busFault => 7
  | .busStuck => 8
  | .cancelled => 9
  | .expired => 10
  | .nodeSuspended => 11
  | .localTarget => 12
  | .portStopped => 13

/-- PORT codes (R197). -/
def portCode : PortState → Nat
  | .disabled => 0
  | .running => 1
  | .stopping => 2
  | .fault => 3
  | .recovering => 4

/-- LINE codes (R197). -/
def lineCode : LineState → Nat
  | .active => 0
  | .quiet => 1
  | .stuck => 2

/-- ENGINE codes (R197). -/
def engineCode : EngineState → Nat
  | .idle => 0
  | .arbitrating => 1
  | .header => 2
  | .claim => 3
  | .body => 4
  | .check => 5
  | .response => 6
  | .linking => 7
  | .stopping => 8
  | .released => 9

/-- RESPONDER codes (R197). -/
def responderCode : ResponderState → Nat
  | .off => 0
  | .listening => 1
  | .decoding => 2
  | .passive => 3
  | .stalling => 4
  | .claiming => 5
  | .sending => 6
  | .receiving => 7
  | .confirming => 8

/-- STATE codes of the node table view for an entry in use (R202). -/
def nodeStateCode : NodeState → Nat
  | .available => 1
  | .backoff => 2
  | .suspended => 3

/-- HOLD codes (R203). -/
def holdCode : HoldState → Nat
  | .open => 0
  | .pending => 1
  | .held => 2

/-- ACCESS codes (R126). -/
def accessCode : Access → Nat
  | .readWrite => 0
  | .readOnly => 1
  | .writeOnly => 2
  | .code3 => 3

/-- CONTENTION codes (R126). -/
def contentionCode : Contention → Nat
  | .answerBusy => 0
  | .stall => 1

end Sys2Proof.Machine
end

