-- ==== Sys2Proof/Machine/Operands.lean ====
section
/-! DEFINITION. Reading operands: the staging words, the edit areas, the command word's argument, the bits of a frame header, and the layout of a chain's bytes. -/

namespace Sys2Proof.Machine

/-! ### Frame header (R9, R10, R80) -/

/-- The kind field; 3 has no defined body (R10). -/
def kindOfBits (k : BitVec 2) : Option Kind :=
  if k = 0 then some .write else if k = 1 then some .read else if k = 2 then some .probe else none

/-- The kind field as sent (R80). -/
def kindBits : Kind → BitVec 2
  | .write => 0
  | .read => 1
  | .probe => 2

/-- The length field as sent: minus one for WRITE and READ, all zeros for PROBE (R80). -/
def lengthBits (f : Frame) : BitVec 5 :=
  match f.kind with
  | .probe => 0
  | _ => BitVec.ofNat 5 (f.length - 1)

/-- The 35 header bits, bit 1 of the frame the most significant (R9, R80). -/
def headerOf (prio : BitVec 4) (own : Byte) (f : Frame) : BitVec 35 :=
  prio ++ f.dest ++ own ++ kindBits f.kind ++ f.offset ++ lengthBits f

/-- Header fields as a follower takes them (R9, R133). -/
def headerPrio (h : BitVec 35) : BitVec 4 := h.extractLsb' 31 4
def headerDest (h : BitVec 35) : Byte := h.extractLsb' 23 8
def headerSource (h : BitVec 35) : Byte := h.extractLsb' 15 8
def headerKind (h : BitVec 35) : Option Kind := kindOfBits (h.extractLsb' 13 2)
def headerOffset (h : BitVec 35) : Nat := (h.extractLsb' 5 8).toNat
def headerLength (h : BitVec 35) : Nat := (h.extractLsb' 0 5).toNat + 1

/-- One more header bit taken (R133). -/
def headerShift (h : BitVec 35) (b : Bool) : BitVec 35 := (h <<< 1) ||| (if b then 1 else 0)

/-- A frame of this kind goes on into a body at this claim code (R12). -/
def frameGoesOn (k : Option Kind) (c : ClaimCode) : Bool :=
  match k, c with
  | some .read, .proceed => true
  | some .write, .proceed => true
  | _, _ => false

/-- The last bit of a frame (R12): 37, or 46 + 8n for one that goes on. -/
def frameLastBit (goesOn : Bool) (n : Nat) : Nat := if goesOn then 46 + 8 * n else 37

/-- The claim code of two bits as they stand on the line (R11). -/
def claimOfBits (first second : Bool) : ClaimCode :=
  match first, second with
  | false, false => .proceed
  | false, true => .busy
  | true, false => .refuse
  | true, true => .none

/-- The two bits of a claim code, first bit first (R11). -/
def claimBits : ClaimCode → Bool × Bool
  | .proceed => (false, false)
  | .busy => (false, true)
  | .refuse => (true, false)
  | .none => (true, true)

/-! ### Staging area (R31, R32, R198) -/

/-- The request word (R31, R198). -/
structure RequestWord where
  queue : Option QueueName
  prio : BitVec 4
  count : Nat
  deadline : Nat
  deriving DecidableEq, Repr

def requestWord (w : Word) : RequestWord where
  queue :=
    if w.extractLsb' 0 2 = 0 then some .expedite
    else if w.extractLsb' 0 2 = 1 then some .standard
    else if w.extractLsb' 0 2 = 2 then some .background
    else none
  prio := w.extractLsb' 4 4
  count := (w.extractLsb' 8 3).toNat
  deadline := (w.extractLsb' 16 16).toNat

/-- A frame-descriptor word as held: kind none stands for kind 3 (R31, R198). -/
structure RawFrame where
  dest : Byte
  kind : Option Kind
  offset : Byte
  length : Nat
  deriving DecidableEq, Repr

def rawFrame (w : Word) : RawFrame where
  dest := w.extractLsb' 0 8
  kind := kindOfBits (w.extractLsb' 8 2)
  offset := w.extractLsb' 16 8
  length := (w.extractLsb' 24 6).toNat

/-- Staging word i, word 0x040 + i; zero beyond the area. -/
def stagingWord (e : EditAreas) (i : Nat) : Word :=
  if h : i < 21 then tget e.staging ⟨i, h⟩ else 0

/-- The first `count` frame-descriptor words (R31). -/
def rawFrames (e : EditAreas) (count : Nat) : List RawFrame :=
  (List.range count).map fun k => rawFrame (stagingWord e (1 + k))

/-- The 64 payload bytes, byte 4k the most significant of payload word k (R32). -/
def payloadBytes (e : EditAreas) : List Byte :=
  (List.range 16).flatMap fun k =>
    [wordByte (stagingWord e (5 + k)) 0, wordByte (stagingWord e (5 + k)) 1,
     wordByte (stagingWord e (5 + k)) 2, wordByte (stagingWord e (5 + k)) 3]

/-- The frames of a chain whose kinds are all defined. -/
def chainOf (raw : List RawFrame) : List Frame :=
  raw.filterMap fun r => r.kind.map fun k => { dest := r.dest, kind := k, offset := r.offset, length := r.length }

/-! ### Chain layout (R26, R27, R32) -/

/-- The total length of a chain (R26). -/
def chainLength (c : List Frame) : Nat := (c.map Frame.length).sum

/-- The start of frame k's region (R26). -/
def regionStart (c : List Frame) (k : Nat) : Nat := chainLength (c.take k)

/-- The regions in chain order: each WRITE body taken from the packed payload, zeros for READ, nothing for PROBE (R27, R32). -/
def layRegions : List Frame → List Byte → List Byte
  | [], _ => []
  | f :: rest, payload =>
    match f.kind with
    | .write => payload.take f.length ++ layRegions rest (payload.drop f.length)
    | .read => List.replicate f.length 0 ++ layRegions rest payload
    | .probe => layRegions rest payload

/-- The data area at allocation (R27): the regions, then zeros. -/
def allocatedData (c : List Frame) (payload : List Byte) : Vector Byte 64 := toBuffer 64 (layRegions c payload)

/-- n bytes of the capture buffer copied into a region of the data area (R89). -/
def copyRegion (data : Vector Byte 64) (start : Nat) (capture : Vector Byte 32) : Nat → Vector Byte 64
  | 0 => data
  | n + 1 => bufferSet (copyRegion data start capture n) (start + n) (bufferByte capture n)

/-- A chain names a node in some frame. -/
def names (c : List Frame) (addr : Byte) : Bool := c.any fun f => f.dest == addr

/-- Two chains name a common node (R45). -/
def shareNode (c d : List Frame) : Bool := c.any fun f => names d f.dest

/-! ### Edit areas (R73, R126, R202, R203) -/

/-- The bits that a register window word of an edit or staging area holds; the others read 0 (R188, R198, R202, R203). -/
def maskStaging (i : Nat) : Word :=
  if i = 0 then 0xFFFF07F3 else if i ≤ 4 then 0x3FFF03FF else 0xFFFFFFFF
def maskNode0 : Word := 0x000000FF
def maskNode1 : Word := 0x00FFFFF7
def maskWindow0 : Word := 0x01FF03FF
def maskWindow1 : Word := 0x0033FFFF

/-- A time of 0 is stored in an entry as 1 (R73). -/
def atLeastOne (b : Byte) : Byte := if b = 0 then 1 else b

/-- The address of the node edit area (R202). -/
def editNodeAddress (e : EditAreas) : Byte := e.node0.extractLsb' 0 8

/-- The policy of the node edit area put into an entry (R73, R202). -/
def editPolicy (e : EditAreas) (n : NodeEntry) : NodeEntry :=
  { n with
    retryLimit := e.node1.extractLsb' 0 3
    failThreshold := e.node1.extractLsb' 4 4
    backoffMs := atLeastOne (e.node1.extractLsb' 8 8)
    waitLimitMs := atLeastOne (e.node1.extractLsb' 16 8) }

/-- The access code (R126). -/
def accessOfBits (b : BitVec 2) : Access :=
  if b = 0 then .readWrite else if b = 1 then .readOnly else if b = 2 then .writeOnly else .code3

/-- The settings of the window edit area put into an entry; its run-time fields and its enable are kept (R127, R203). -/
def editWindow (e : EditAreas) (w : Window) : Window :=
  { w with
    base := e.window0.extractLsb' 0 10
    size := e.window0.extractLsb' 16 9
    node := e.window1.extractLsb' 0 8
    stallMs := e.window1.extractLsb' 8 8
    access := accessOfBits (e.window1.extractLsb' 16 2)
    notify := e.window1.getLsbD 20
    contention := if e.window1.getLsbD 21 then .stall else .answerBusy }

/-! ### Command argument (R189) -/

/-- A window index 0–7, or none above 7 (section 7.3). -/
def windowIndex (arg : BitVec 16) : Option (Fin 8) :=
  if h : arg.toNat < 8 then some ⟨arg.toNat, h⟩ else none

/-- A tag or node address 0–255, or none above 255 (R189). -/
def byteArg (arg : BitVec 16) : Option Byte :=
  if arg.toNat < 256 then some (BitVec.ofNat 8 arg.toNat) else none

end Sys2Proof.Machine
end

