-- ==== Sys2Proof/Machine/Responder.lean ====
section
/-! DEFINITION. The Responder with the Hold and Notify Unit: header decode, claim decision, snapshot, intake, commit, stalls, breaks (chapters 7 and 8). -/

namespace Sys2Proof.Machine

/-! ### Windows and their frames -/

def windowOf (s : State) (i : Fin 8) : Window := tget s.windows i

/-- One window table entry is changed. -/
def setWindow (i : Fin 8) (w : Window) (s : State) : State := s.setWindows (tset s.windows i w)

/-- The end of a window's frame: in-frame becomes no, and a PENDING hold becomes HELD (R146, R152). -/
def Window.frameEnd (w : Window) : Window :=
  if w.inFrame then { w with inFrame := false, hold := if w.hold = .pending then .held else w.hold } else w

/-- The end of this window's frame grants a hold (R152). -/
def Window.grants (w : Window) : Bool := w.inFrame && w.hold == .pending

/-- The frame of the window in progress ends; a grant sets HOLD_GRANTED (R146, R152). -/
def endWindowFrame (i : Fin 8) (s : State) : State :=
  let t := setWindow i (windowOf s i).frameEnd s
  if (windowOf s i).grants then setEvent .holdGranted t else t

/-- The frame of any in-frame window ends by discard (R144, R145, R146). -/
def endAllFrames (s : State) : State :=
  let t := s.setWindows (tmap Window.frameEnd s.windows)
  if (tfind Window.grants s.windows).isSome then setEvent .holdGranted t else t

/-! ### Hold reasons (R155, R156) -/

/-- WINDOW_HELD for a window (R155). -/
def reasonHeldFor (s : State) (i : Fin 8) : Bool := (windowOf s i).hold == .held

/-- Notify records and reservations together (R155, R162). -/
def notifyLoad (h : HoldUnit) : Nat := h.queue.length + (if h.reservation then 1 else 0)

/-- NOTIFY_FULL for a frame of this kind to a window (R155). -/
def reasonFullFor (s : State) (i : Fin 8) (k : Option Kind) : Bool :=
  k == some .write && (windowOf s i).notify && notifyLoad s.hold == Config.notifyDepth

/-- The stall shown ends: timer OFF, no stalling window, no reasons (R156, R157). -/
def HoldUnit.stallOver (h : HoldUnit) : HoldUnit :=
  { h with stallTimer := none, stallWindow := none, reasonHeld := false, reasonFull := false }

/-- The reasons are cleared to none (R156). -/
def HoldUnit.noReasons (h : HoldUnit) : HoldUnit := { h with reasonHeld := false, reasonFull := false }

/-! ### The frame in progress -/

/-- The kind of the frame whose header the Responder holds (R133). -/
def frameKind (s : State) : Option Kind := headerKind s.responder.header

/-- Body bytes of the frame (R133). -/
def frameLen (s : State) : Nat := headerLength s.responder.header

/-- The last bit of the frame as the Responder knows it (R12). -/
def responderLast (s : State) : Nat := frameLastBit s.responder.goesOn (frameLen s)

/-- The bytes of page memory that the frame reads from window i (R139). -/
def snapshotBytes (s : State) (i : Fin 8) : Vector Byte 32 :=
  toBuffer 32 (s.page.readBytes ((windowOf s i).base.toNat + headerOffset s.responder.header) (frameLen s))

/-- PROCEED for a READ: the snapshot is taken and the window is in-frame (R139). -/
def takeSnapshot (i : Fin 8) (s : State) : State :=
  setWindow i { windowOf s i with inFrame := true }
    (s.setResponder { s.responder with sendBuf := snapshotBytes s i })

/-- PROCEED for a WRITE: the intake is cleared, the window is in-frame, and a notify window takes one reservation (R141, R162). -/
def setUpIntake (i : Fin 8) (s : State) : State :=
  let t := s.setHold { s.hold with reservation := s.hold.reservation || (windowOf s i).notify }
  setWindow i { windowOf s i with inFrame := true }
    (t.setResponder { t.responder with intake := Vector.replicate 32 0 })

/-- A READ or WRITE to window i begins past PROCEED (R139, R141). -/
def beginFrame (i : Fin 8) (s : State) : State :=
  match frameKind s with
  | some .read => takeSnapshot i s
  | some .write => setUpIntake i s
  | _ => s

/-! ### The claim decision (R133 to R136) -/

/-- The enabled window that a frame names; none for a destination or source of 0 or 255 (R135). -/
def matchWindow (s : State) : Option (Fin 8) :=
  let d := headerDest s.responder.header
  let src := headerSource s.responder.header
  if d = 0 ∨ d = 255 ∨ src = 0 ∨ src = 255 then none
  else tfind (fun w => w.enabled && w.node == d) s.windows

/-- What a matched frame gets (R136). -/
inductive Decision where
  | claim (c : ClaimCode)
  | begin
  | answerBusy
  | stall
  deriving DecidableEq, Repr

/-- The kind is not one that the window's access takes (R136, row 3). -/
def accessRefuses (a : Access) (k : Kind) : Bool :=
  match a, k with
  | .writeOnly, .read => true
  | .readOnly, .write => true
  | _, _ => false

/-- The first row of the claim table that matches (R136). -/
def claimTable (s : State) (i : Fin 8) : Decision :=
  let w := windowOf s i
  match frameKind s with
  | none => .claim .refuse
  | some .probe => .claim .proceed
  | some k =>
    if accessRefuses w.access k then .claim .refuse
    else if w.size.toNat < headerOffset s.responder.header + frameLen s then .claim .refuse
    else if reasonHeldFor s i || reasonFullFor s i (some k) then
      (if w.contention = .answerBusy then .answerBusy else .stall)
    else .begin

/-- The Responder keeps a claim code and enters CLAIMING (R136). -/
def enterClaiming (c : ClaimCode) (s : State) : State :=
  s.setResponder { s.responder with st := .claiming, code := c }

/-- The reasons found are shown (R156). -/
def showReasons (i : Fin 8) (s : State) : State :=
  s.setHold { s.hold with reasonHeld := reasonHeldFor s i, reasonFull := reasonFullFor s i (frameKind s) }

/-- A stall begins: timer, stalling window, reasons, STALL_BEGUN (R157). -/
def beginStall (i : Fin 8) (s : State) : State :=
  let t := showReasons i s
  setEvent .stallBegun
    ((t.setHold { t.hold with stallTimer := some (windowOf s i).stallMs.toNat, stallWindow := some i }).setResponder
      { t.responder with st := .stalling })

/-- The decision for a matched window is carried out (R136). -/
def applyDecision (i : Fin 8) (s : State) : State :=
  let t := s.setResponder { s.responder with window := some i }
  match claimTable t i with
  | .claim c => enterClaiming c t
  | .begin => enterClaiming .proceed (beginFrame i t)
  | .answerBusy => enterClaiming .busy (showReasons i t)
  | .stall => beginStall i t

/-- A foreign header carries the part's own address as source (R134). -/
def clashCheck (s : State) : State :=
  if headerSource s.responder.header = s.cfg.ownAddr then setEvent .addressClash s else s

/-- A frame that is not the part's to answer (R133, R135). -/
def enterPassive (s : State) : State := s.setResponder { s.responder with st := .passive, window := none }

/-- Bit 35 is taken: the engine's own frame is PASSIVE; any other gets the clash check and the claim decision (R133). -/
def decideClaim (s : State) : State :=
  if engineDriving s then enterPassive s
  else
    let t := clashCheck s
    match matchWindow t with
    | none => enterPassive t
    | some i => applyDecision i t

/-! ### Breaks and the end of taking part (R144, R145) -/

/-- What a break or the port gives up: lines released, buffers cleared, counts dropped (R144, R145). -/
def Responder.cleared (r : Responder) : Responder :=
  { r with
    sendBuf := Vector.replicate 32 0
    intake := Vector.replicate 32 0
    window := none
    code := .none
    verified := false
    driveSbck := false
    driveSbdt := false
    delay := none
    want := false
    commits := false
    release := none }

/-- The reservation is given back and the stall ends without a claim (R144, R145, R161, R162). -/
def HoldUnit.givenUp (h : HoldUnit) : HoldUnit := { h.stallOver with reservation := false }

/-- What the Responder holds of a frame is given up, and an in-frame window's frame ends by discard (R144, R145, R146). -/
def giveUpFrame (s : State) : State :=
  let t := endAllFrames s
  (t.setResponder t.responder.cleared).setHold t.hold.givenUp

/-- The Responder enters OFF: what it holds is given up, position BETWEEN, header decode empty (R145). -/
def responderOff (s : State) : State :=
  let t := giveUpFrame s
  t.setResponder { t.responder with st := .off, pos := .between, high := .plain, header := 0, goesOn := false }

/-- The Responder begins to listen: LISTENING, position BETWEEN (R131). -/
def responderListen (s : State) : State :=
  s.setResponder { s.responder with st := .listening, pos := .between, high := .plain }

/-- The Responder is in the middle of a frame: WITHIN, or still in the high phase of a frame's last bit (R5, R8; log 11). -/
def midFrame (r : Responder) : Bool :=
  match r.pos with
  | .within _ => true
  | .boundary => r.high == .lastBit
  | .between => false

/-- A break where a bit was expected; nothing outside a frame (R8, R144). It clears both buffers in PASSIVE and DECODING too, a send buffer left from an earlier READ included (log 39). -/
def breakFrame (s : State) : State := if midFrame s.responder then giveUpFrame s else s

/-- A Start or Restart at the Responder: any open frame is broken, and a frame opens (R5, R8, R132). -/
def responderStart (s : State) : State :=
  if s.responder.st = .off then s
  else
    let t := breakFrame s
    t.setResponder
      { t.responder with st := .decoding, pos := .within 0, high := .plain, header := 0, crc := crcInit, goesOn := false }

/-- A Stop, QUIET or STUCK at the Responder: an open frame is broken, position BETWEEN (R5, R8, R132, R144). -/
def responderClose (s : State) : State :=
  if s.responder.st = .off ∨ s.responder.pos = .between then s
  else responderListen (breakFrame s)

/-! ### Stalls (R157 to R161) -/

/-- A stall ends with a claim code: timer OFF, nothing shown, CLAIMING. With SBCK held, SBDT takes the first claim bit now, low for PROCEED and BUSY, and SBCK is released 10 REFCLK periods later (R158, R159). -/
def endStall (c : ClaimCode) (s : State) : State :=
  let t := s.setHold s.hold.stallOver
  let u := enterClaiming c t
  if s.responder.driveSbck then
    sbdtLow (u.setResponder { u.responder with driveSbdt := true, release := some Config.responderDelay })
  else u

/-- The hold reasons of a running stall are evaluated again; with none left the stall ends with PROCEED (R158). -/
def reevaluateStall (s : State) : State :=
  if s.responder.st = .stalling then
    match s.hold.stallWindow with
    | none => s
    | some i =>
      if reasonHeldFor s i || reasonFullFor s i (frameKind s) then showReasons i s
      else endStall .proceed (beginFrame i s)
  else s

/-! ### Bits (R132, R137, R140, R141) -/

/-- The Responder's bit for the low phase that begins with n bits taken is 0, so SBDT is driven low (R137, R140, R142). -/
def responderDrivesLow (s : State) : Bool :=
  let r := s.responder
  match r.pos with
  | .within n =>
    match r.st with
    | .claiming => if n = 35 then !(claimBits r.code).1 else if n = 36 then !(claimBits r.code).2 else false
    | .sending =>
      if n < 37 + 8 * frameLen s then !byteBit (bufferByte r.sendBuf ((n - 37) / 8)) ((n - 37) % 8)
      else !byteBit r.crc (n - 37 - 8 * frameLen s)
    | .confirming => frameKind s == some .write && r.verified && n + 1 == responderLast s
    | _ => false
  | _ => false

/-- The low phase that begins is the response slot of a verified WRITE (R142). -/
def responderCommits (s : State) : Bool :=
  match s.responder.st, s.responder.pos with
  | .confirming, .within n => frameKind s == some .write && s.responder.verified && n + 1 == responderLast s
  | _, _ => false

/-- The notify record of a commit (R163). -/
def notifyRecord (s : State) (i : Fin 8) : NotifyRecord where
  window := i
  offset := BitVec.ofNat 8 (headerOffset s.responder.header)
  length := frameLen s
  source := headerSource s.responder.header
  sequence := s.hold.sequence

/-- The reservation becomes a record at the tail, the sequence counter rises, NOTIFY is set (R163, R164). -/
def appendNotify (i : Fin 8) (s : State) : State :=
  setEvent .notify
    (s.setHold
      { s.hold with
        queue := s.hold.queue ++ [notifyRecord s i]
        reservation := false
        sequence := s.hold.sequence + 1 })

/-- The intake written to page memory (R142). -/
def commitBytes (s : State) (i : Fin 8) : Memory :=
  s.page.writeBytes ((windowOf s i).base.toNat + headerOffset s.responder.header)
    (s.responder.intake.toList.take (frameLen s))

/-- The commit of a remote WRITE (R142); the intake is cleared after it (log 18). -/
def commitWrite (i : Fin 8) (s : State) : State :=
  let t := s.setPage (commitBytes s i)
  let u := if (windowOf s i).notify && s.hold.reservation then appendNotify i t else t
  endWindowFrame i (u.setResponder { u.responder with intake := Vector.replicate 32 0 })

/-- The check of a remote WRITE failed (R143). -/
def discardWrite (s : State) : State :=
  let t := s.setResponder { s.responder with intake := Vector.replicate 32 0, verified := false }
  let u := t.setHold { t.hold with reservation := false }
  match s.responder.window with
  | none => u
  | some i => endWindowFrame i u

/-- A frame reaches its end with its window still in-frame, since a bit was so short that what the Responder was to drive did not reach the line: it ends by discard, as at a break (R144, R146, R162; log 35). -/
def dropFrame (s : State) : State :=
  match s.responder.window with
  | none => s
  | some i =>
    if (windowOf s i).inFrame then
      endWindowFrame i
        ((s.setResponder
            { s.responder with
              sendBuf := Vector.replicate 32 0, intake := Vector.replicate 32 0, verified := false }).setHold
          { s.hold with reservation := false })
    else s

/-- The frame is at its end: LISTENING at BOUNDARY, in the high phase of its last bit (R132; log 11). -/
def frameOver (s : State) : State :=
  s.setResponder { s.responder with st := .listening, pos := .boundary, high := .lastBit, window := none }

/-- Bit 37 taken by a Responder that drove a claim (R137). The reasons shown go (R156). A PROCEED that the line does not show ends the frame by discard (log 35). -/
def claimTaken (c : ClaimCode) (s : State) : State :=
  let goes := frameGoesOn (frameKind s) c
  let t := (s.setResponder { s.responder with goesOn := goes }).setHold s.hold.noReasons
  if goes then
    if s.responder.code = .proceed then
      match frameKind s with
      | some .read => t.setResponder { t.responder with st := .sending }
      | _ => t.setResponder { t.responder with st := .receiving }
    else enterPassive t
  else frameOver (dropFrame t)

/-- A follower that does not answer goes on, or is at the frame's end (R132). -/
def passiveBit (p : Nat) (b : Bool) (s : State) : State :=
  let r := s.responder
  if p = 36 then s.setResponder { r with claimFirst := b }
  else if p = 37 then
    let goes := frameGoesOn (frameKind s) (claimOfBits r.claimFirst b)
    let t := s.setResponder { r with goesOn := goes }
    if goes then t else frameOver t
  else if p = responderLast s then frameOver s
  else s

/-- A bit of the body or check that the Responder sends is over (R140); `b` is the bit it sent. -/
def sendingBit (p : Nat) (b : Bool) (s : State) : State :=
  let r := s.responder
  let t := if crcCovers p (8 * frameLen s) then s.setResponder { r with crc := crcStep r.crc b } else s
  if p = 45 + 8 * frameLen s then t.setResponder { t.responder with st := .confirming } else t

/-- A bit of the body or check that the Responder takes (R141); at the last check bit it compares (R15, R143). -/
def receivingBit (p : Nat) (b : Bool) (s : State) : State :=
  let r := s.responder
  if p ≤ 37 + 8 * frameLen s then
    s.setResponder { r with intake := bufferShiftIn r.intake ((p - 38) / 8) b, crc := crcStep r.crc b }
  else
    let c := shiftIn r.check b
    let t := s.setResponder { r with check := c }
    if p = 45 + 8 * frameLen s then
      let u := t.setResponder { t.responder with st := .confirming, verified := c == r.crc }
      if c = r.crc then u else discardWrite u
    else t

/-- The response slot taken: the frame of a READ's window ends (R140). -/
def confirmingBit (s : State) : State :=
  match frameKind s, s.responder.window with
  | some .read, some i => endWindowFrame i s
  | _, _ => s

/-- A bit of the header is taken; at bit 35 the claim is decided (R133). -/
def decodingBit (p : Nat) (b : Bool) (s : State) : State :=
  let r := s.responder
  let t := s.setResponder { r with header := headerShift r.header b, crc := crcStep r.crc b, check := 0, verified := false }
  if p = 35 then decideClaim t else t

/-- The bit that the Responder is sending with n bits taken (R140). -/
def sentBit (n : Nat) (s : State) : Bool :=
  if n < 37 + 8 * frameLen s then byteBit (bufferByte s.responder.sendBuf ((n - 37) / 8)) ((n - 37) % 8)
  else byteBit s.responder.crc (n - 37 - 8 * frameLen s)

/-- A rise of SBCK at the Responder with SBDT at level b: one bit is taken (R2, R5, R132). -/
def responderRise (b : Bool) (s : State) : State :=
  let r := s.responder
  match r.pos with
  | .between => s
  | .boundary => s.setResponder { r with high := .condition }
  | .within n =>
    let t := s.setResponder { r with pos := .within (n + 1) }
    match r.st with
    | .decoding => decodingBit (n + 1) b t
    | .passive => passiveBit (n + 1) b t
    | .claiming =>
      if n + 1 = 36 then t.setResponder { t.responder with claimFirst := b }
      else claimTaken (claimOfBits r.claimFirst b) t
    | .sending => sendingBit (n + 1) (sentBit n s) t
    | .receiving => receivingBit (n + 1) b t
    | .confirming => confirmingBit t
    | .off | .listening | .stalling => t

/-- The response slot is over: LISTENING at BOUNDARY, with SBDT released 10 REFCLK periods later (R132). A WRITE whose ACCEPT did not reach the line ends by discard (log 35). -/
def responseOver (s : State) : State :=
  let t := dropFrame s
  t.setResponder
    { t.responder with
      st := .listening
      pos := .boundary
      high := .plain
      window := none
      delay := if t.responder.driveSbdt then some Config.responderDelay else none
      want := false
      commits := false }

/-- A fall of SBCK at the Responder: the response slot or a boundary's high phase ends, a stall takes hold of SBCK, and the 10-period count to a change of SBDT begins (R2, R5, R132, R157). A change of SBDT still due from the fall before is dropped, and the count begins anew (log 33). -/
def responderFall (s : State) : State :=
  let r := s.responder
  match r.st with
  | .off => s
  | .stalling => s.setResponder { r with driveSbck := true }
  | .confirming =>
    if r.pos = .within (responderLast s) then responseOver s
    else
      s.setResponder
        { r with delay := some Config.responderDelay, want := responderDrivesLow s, commits := responderCommits s }
  | .claiming | .sending =>
    s.setResponder { r with delay := some Config.responderDelay, want := responderDrivesLow s, commits := false }
  | .listening | .decoding | .passive | .receiving =>
    s.setResponder
      { r with
        pos := (if r.pos = .boundary ∧ r.high = .condition then .between else r.pos)
        high := .plain
        delay := if r.driveSbdt then some Config.responderDelay else none
        want := false
        commits := false }

end Sys2Proof.Machine
end

