-- ==== Sys2Proof/Machine/Nodes.lean ====
section
/-! DEFINITION. The Node Table: lookups, frame results, backoff, suspension and reference counts (chapter 4). -/

namespace Sys2Proof.Machine

/-- The entry is in use and holds the address (R61). -/
def entryHolds (addr : Byte) : Option NodeEntry → Bool
  | some n => n.address == addr
  | none => false

/-- The index of the entry in use with this address (R61). -/
def findNode (addr : Byte) (s : State) : Option (Fin 16) := tfind (entryHolds addr) s.nodes

/-- The entry in use with this address (R61). -/
def nodeAt (addr : Byte) (s : State) : Option NodeEntry :=
  (findNode addr s).bind fun i => tget s.nodes i

/-- The entries of the nodes for which p holds are changed by f. -/
def mapNodes (p : Byte → Bool) (f : NodeEntry → NodeEntry) (s : State) : State :=
  s.setNodes (tmap (fun e => e.map fun n => if p n.address then f n else n) s.nodes)

/-- The state of a node; none without an entry (R64). -/
def nodeState (addr : Byte) (s : State) : Option NodeState := (nodeAt addr s).map NodeEntry.state

/-- The node may be addressed now (R64). -/
def nodeAvailable (addr : Byte) (s : State) : Bool := nodeState addr s == some .available

/-- A node entry at creation (R73). -/
def NodeEntry.fresh (addr : Byte) : NodeEntry where
  address := addr
  retryLimit := 0
  backoffMs := 1
  waitLimitMs := 1
  failThreshold := 0
  state := .available
  failCount := 0
  backoffLeft := 0
  refs := 0

/-- The run-time fields after SOFT_RESET (R62). -/
def NodeEntry.softReset (n : NodeEntry) : NodeEntry :=
  { n with state := .available, failCount := 0, backoffLeft := 0, refs := 0 }

/-- The counted results (R68). -/
def countedResult : FrameResult → Bool
  | .noTarget | .noResponse | .badCheck | .waitTimeout => true
  | _ => false

/-- fail_count raised by one, saturating at 15 (R68). -/
def raisedCount (n : NodeEntry) : Nat := min 15 (n.failCount + 1)

/-- This result suspends the node: it is counted, and leaves fail_count at or above a threshold that is not 0 (R69). -/
def suspendsNode (r : FrameResult) (n : NodeEntry) : Bool :=
  countedResult r && n.failThreshold != 0 && decide (n.failThreshold.toNat ≤ raisedCount n)

/-- What a frame result does to the entry of the frame's node (R65, R66, R69). -/
def NodeEntry.takeResult (r : FrameResult) (n : NodeEntry) : NodeEntry :=
  match r with
  | .accepted | .refused => { n with failCount := 0 }
  | .busy => { n with failCount := 0, state := .backoff, backoffLeft := n.backoffMs.toNat }
  | .noTarget | .noResponse | .badCheck | .waitTimeout =>
    if suspendsNode r n then { n with failCount := raisedCount n, state := .suspended, backoffLeft := 0 }
    else { n with failCount := raisedCount n }
  | .busFault | .busStuck | .arbLost => n

/-- The result suspends the node at this address (R69). -/
def resultSuspends (r : FrameResult) (addr : Byte) (s : State) : Bool :=
  match nodeAt addr s with
  | some n => suspendsNode r n
  | none => false

/-- The Node Table takes a frame result against a node; a suspension sets NODE_SUSPENDED (R65, R69). -/
def nodeResult (r : FrameResult) (addr : Byte) (s : State) : State :=
  let t := mapNodes (· == addr) (NodeEntry.takeResult r) s
  if resultSuspends r addr s then setEvent .nodeSuspended t else t

/-- The refs of each distinct node that a chain names rises by one (R39, R72). -/
def raiseRefs (c : List Frame) (s : State) : State :=
  mapNodes (names c) (fun n => { n with refs := n.refs + 1 }) s

/-- The refs of each distinct node that a chain names falls by one (R72). -/
def dropRefs (c : List Frame) (s : State) : State :=
  mapNodes (names c) (fun n => { n with refs := n.refs - 1 }) s

/-- A backoff ends: AVAILABLE, no backoff remaining, fail_count 0 (R67, R76). -/
def NodeEntry.resumed (n : NodeEntry) : NodeEntry :=
  { n with state := .available, failCount := 0, backoffLeft := 0 }

/-- A backoff expires: AVAILABLE with backoff remaining 0; fail_count stays (R67). -/
def NodeEntry.backoffExpired (n : NodeEntry) : NodeEntry :=
  { n with state := .available, backoffLeft := 0 }

/-- A ms tick at a node entry: a running backoff falls by one (R67). -/
def NodeEntry.tick (n : NodeEntry) : NodeEntry :=
  if n.state = .backoff then { n with backoffLeft := n.backoffLeft - 1 } else n

/-- The tick of the backoff's expiry has come (R67; log 4). -/
def backoffDue : Option NodeEntry → Bool
  | some n => n.state == .backoff && n.backoffLeft == 0
  | none => false

/-- The entry takes the policy of the edit area; created fresh where it was not in use (R73). -/
def writeEntry (e : EditAreas) (i : Fin 16) (n : NodeEntry) (s : State) : State :=
  s.setNodes (tset s.nodes i (some (editPolicy e n)))

end Sys2Proof.Machine
end

