-- ==== Sys2Proof/Machine/Requests.lean ====
section
/-! DEFINITION. Requests from allocation to completion: slots, dispatch queue membership, completion, the attempt end, the suspension flush, tags (chapters 2, 4 and 6). -/

namespace Sys2Proof.Machine

/-! ### Slots and queues -/

def slotOf (s : State) (k : Fin 32) : Slot := tget s.store.slots k

/-- One slot record is changed. -/
def setSlot (k : Fin 32) (x : Slot) (s : State) : State :=
  s.setStore { s.store with slots := tset s.store.slots k x }

def timerOf (s : State) (k : Fin 32) : DeadlineTimer := tget s.sched.timers k

/-- One deadline timer is changed. -/
def setTimer (k : Fin 32) (t : DeadlineTimer) (s : State) : State :=
  s.setSched { s.sched with timers := tset s.sched.timers k t }

/-- The list of a dispatch queue (R40). -/
def queueList (c : Sched) : QueueName → List (Fin 32)
  | .expedite => c.exp
  | .standard => c.std
  | .background => c.bkg

/-- A slot joins the tail of a queue (R39, R40). -/
def appendQueue (q : QueueName) (k : Fin 32) (c : Sched) : Sched :=
  match q with
  | .expedite => { c with exp := c.exp ++ [k] }
  | .standard => { c with std := c.std ++ [k] }
  | .background => { c with bkg := c.bkg ++ [k] }

/-- A slot leaves its queue; the others keep their order (R40, R60). -/
def removeQueued (k : Fin 32) (c : Sched) : Sched :=
  { c with exp := c.exp.filter (· != k), std := c.std.filter (· != k), bkg := c.bkg.filter (· != k) }

/-- The limit of a queue (R42). -/
def queueLimit (c : Cfg) : QueueName → Nat
  | .expedite => c.limitExp.toNat
  | .standard => c.limitStd.toNat
  | .background => c.limitBkg.toNat

/-- The number of FREE slots (R23). -/
def freeSlots (s : State) : Nat := tcount (fun x => x.state == .free) s.store.slots

/-- A slot that is not FREE (R23). -/
def Slot.live (x : Slot) : Bool := x.state != .free

/-- The live slot that holds a tag (R29, R121). -/
def findTag (tag : Byte) (s : State) : Option (Fin 32) :=
  tfind (fun x => x.live && x.tag == some tag) s.store.slots

/-! ### Tags (R29, R30) -/

/-- After 255 the next tag is 1 (R29). -/
def nextTag (t : Byte) : Byte := if t = 255 then 1 else t + 1

/-- The first value from t on that no live slot holds (R29); the search ends within 32 values, so 32 further steps are enough. -/
def searchTag (s : State) : Nat → Byte → Byte
  | 0, t => t
  | n + 1, t => if (findTag t s).isSome then searchTag s n (nextTag t) else t

/-- The tag that a SUBMIT assigns (R29). -/
def assignTag (s : State) : Byte := searchTag s 32 s.store.tagCounter

/-! ### Completion (R111 to R113) -/

/-- The slot record in the completion event: outcome, fail_index and fail_node set, state DONE (R111, R113). A request that completes while WAITING has frames_done 0 (R112). -/
def doneSlot (x : Slot) (o : RequestOutcome) (failed : Bool) : Slot :=
  let done := if x.state = .waiting then 0 else x.framesDone
  { x with
    state := .done
    framesDone := done
    outcome := some o
    failIndex := if failed then some done else none
    failNode := if failed then (x.chain[done]?).map Frame.dest else none }

/-- The completion record built from a slot (R112). -/
def recordOf (k : Fin 32) (x : Slot) (o : RequestOutcome) : CompletionRecord where
  slot := k
  tag := x.tag.getD 0
  outcome := o
  framesDone := x.framesDone
  failIndex := x.failIndex
  failNode := x.failNode
  attempts := x.attempts
  arbLosses := x.arbLosses
  dataLength := chainLength x.chain

/-- A request completes: its slot is DONE and leaves its queue, its timer is OFF, its references fall, its record is appended, COMPLETION is set (R111). -/
def complete (k : Fin 32) (o : RequestOutcome) (failed : Bool) (s : State) : State :=
  let x := doneSlot (slotOf s k) o failed
  let s1 := setSlot k x s
  let s2 := setTimer k .off (s1.setSched (removeQueued k s1.sched))
  let s3 := dropRefs x.chain s2
  setEvent .completion (s3.setCompletions (s3.completions ++ [recordOf k x o]))

/-- A return to WAITING in place (R106). -/
def returnWaiting (k : Fin 32) (s : State) : State := setSlot k { slotOf s k with state := .waiting } s

/-- A return row: WAITING in place, or EXPIRED when the timer is LAPSED (R58, R105). -/
def returnOrExpire (k : Fin 32) (s : State) : State :=
  if timerOf s k = .lapsed then complete k .expired false s else returnWaiting k s

/-! ### The attempt end (R104, R105) -/

/-- The outcome named after a frame result (R105, row 7). -/
def outcomeOf : FrameResult → RequestOutcome
  | .accepted => .done
  | .refused => .refused
  | .busy => .busy
  | .noTarget => .noTarget
  | .noResponse => .noResponse
  | .badCheck => .badCheck
  | .waitTimeout => .waitTimeout
  | .busFault => .busFault
  | .arbLost => .busFault
  | .busStuck => .busStuck

/-- The retried results (R105, row 6). -/
def retriedResult : FrameResult → Bool
  | .busy | .noResponse | .badCheck | .busFault => true
  | _ => false

/-- Row 6's conditions on frame 0's node: attempts within its retry limit, and not SUSPENDED (R105, R107). -/
def retryAllowed (x : Slot) (s : State) : Bool :=
  match x.chain.head? with
  | none => false
  | some f =>
    match nodeAt f.dest s with
    | none => false
    | some n => decide (x.attempts ≤ n.retryLimit.toNat) && n.state != .suspended

/-- The end of an attempt lost in arbitration (R104). -/
def arbLostEnd (k : Fin 32) (s : State) : State :=
  let x := slotOf s k
  let t := setSlot k { x with arbLosses := min 255 (x.arbLosses + 1) } s
  if x.cancelPending then complete k .cancelled true t else returnOrExpire k t

/-- The attempt-end table (R105), after the Node Table has taken the result; `won` is the arbitration status handed on (R103). -/
def tableEnd (k : Fin 32) (r : FrameResult) (won : Bool) (s : State) : State :=
  let x := slotOf s k
  if x.framesDone = x.chain.length then complete k .done false s
  else if x.cancelPending then complete k .cancelled true s
  else if s.port.state = .stopping ∧ x.framesDone = 0 then
    returnOrExpire k (if won ∧ timerOf s k ≠ .lapsed then setSlot k { x with attempts := x.attempts - 1 } s else s)
  else if s.port.state = .stopping then complete k .portStopped true s
  else if r = .busStuck then complete k .busStuck true s
  else if retriedResult r ∧ x.framesDone = 0 ∧ retryAllowed x s then returnOrExpire k s
  else complete k (outcomeOf r) true s

/-- Outcome Logic takes an attempt end (R103). -/
def attemptEnd (k : Fin 32) (r : FrameResult) (won : Bool) (s : State) : State :=
  if r = .arbLost then arbLostEnd k s else tableEnd k r won s

/-! ### The suspension flush (R70) -/

/-- The WAITING requests that name a node, EXPEDITE then STANDARD then BACKGROUND, each in queue order (R70). -/
def flushList (addr : Byte) (s : State) : List (Fin 32) :=
  (s.sched.exp ++ s.sched.std ++ s.sched.bkg).filter fun k =>
    (slotOf s k).state == .waiting && names (slotOf s k).chain addr

/-- Requests completed NODE_SUSPENDED one after another. -/
def completeAll : List (Fin 32) → State → State
  | [], s => s
  | k :: rest, s => completeAll rest (complete k .nodeSuspended false s)

/-- The flush of a suspended node (R70). -/
def flush (addr : Byte) (s : State) : State := completeAll (flushList addr s) s

/-! ### SUBMIT (R34 to R39) -/

/-- The first failing check of a SUBMIT with its result value (R34, R35), or the request that passes all ten. -/
inductive SubmitCheck where
  | refused (code : ResultCode) (value : Nat)
  | passed (queue : QueueName) (chain : List Frame) (slot : Fin 32)
  deriving DecidableEq, Repr

/-- A length fits its kind (R34, check 4). -/
def lengthFits (r : RawFrame) : Bool :=
  match r.kind with
  | some .probe => r.length == 0
  | _ => decide (1 ≤ r.length ∧ r.length ≤ 32)

/-- A node address 1–254 (R10). -/
def validAddress (a : Byte) : Bool := a != 0 && a != 255

/-- The ten checks in their order (R34, R35, R36, R37). Check 9 refuses a count equal to the limit (R34, R37), a limit written at the count included, which the last sentence of R42 lets through (log 37). -/
def submitCheck (s : State) : SubmitCheck :=
  let w := requestWord (stagingWord s.edit 0)
  let raw := rawFrames s.edit w.count
  match w.queue with
  | none => .refused .badQueue 0
  | some q =>
    if w.count < 1 ∨ 4 < w.count then .refused .badCount 0
    else match raw.findIdx? (fun r => r.kind.isNone) with
    | some i => .refused .badKind i
    | none =>
    match raw.findIdx? (fun r => !lengthFits r) with
    | some i => .refused .badLength i
    | none =>
    if 64 < (raw.map RawFrame.length).sum then .refused .overSize 0
    else match raw.findIdx? (fun r => !validAddress r.dest) with
    | some i => .refused .badAddress i
    | none =>
    match raw.findIdx? (fun r => (nodeAt r.dest s).isNone) with
    | some i => .refused .nodeUnknown i
    | none =>
    match raw.findIdx? (fun r => nodeState r.dest s == some .suspended) with
    | some i => .refused .nodeSuspended i
    | none =>
    if queueLimit s.cfg q ≤ (queueList s.sched q).length then .refused .queueFull 0
    else match tfind (fun x => x.state == .free) s.store.slots with
    | none => .refused .noSlot 0
    | some k => .passed q (chainOf raw) k

/-- The slot after allocation (R38). -/
def allocatedSlot (tag : Byte) (q : QueueName) (prio : BitVec 4) (c : List Frame) (payload : List Byte) : Slot :=
  { Slot.free with
    state := .waiting
    tag := some tag
    queue := some q
    prio := prio
    chain := c
    data := allocatedData c payload }

/-- The deadline timer at SUBMIT (R56). -/
def startTimer (deadline : Nat) : DeadlineTimer := if deadline = 0 then .off else .running deadline

/-- The request is placed: slot, tag counter, queue, references, timer, all in one event (R38, R39). -/
def placeRequest (k : Fin 32) (q : QueueName) (c : List Frame) (s : State) : State :=
  let w := requestWord (stagingWord s.edit 0)
  let tag := assignTag s
  let s1 := setSlot k (allocatedSlot tag q w.prio c (payloadBytes s.edit)) s
  let s2 := s1.setStore { s1.store with tagCounter := nextTag tag }
  let s3 := s2.setSched (appendQueue q k s2.sched)
  setTimer k (startTimer w.deadline) (raiseRefs c s3)

end Sys2Proof.Machine
end

