-- ==== Sys2Proof/Machine/Scheduler.lean ====
section
/-! DEFINITION. The Dispatch Scheduler: eligibility, the choice rule, pass counters, local targets, and the hand-over to the engine (chapter 3; R79). -/

namespace Sys2Proof.Machine

/-- Every node that a chain names is AVAILABLE (R44, R46). -/
def nodesAvailable (c : List Frame) (s : State) : Bool := c.all fun f => nodeAvailable f.dest s

/-- An older request of the queue that names a common node is WAITING or ACTIVE (R45). -/
def heldBack (s : State) (older : List (Fin 32)) (k : Fin 32) : Bool :=
  older.any fun o =>
    ((slotOf s o).state == .waiting || (slotOf s o).state == .active) &&
      shareNode (slotOf s o).chain (slotOf s k).chain

/-- A WAITING request may be chosen now, given the older requests of its queue (R44). -/
def eligible (s : State) (older : List (Fin 32)) (k : Fin 32) : Bool :=
  (slotOf s k).state == .waiting && nodesAvailable (slotOf s k).chain s &&
    !(slotOf s k).cancelPending && !heldBack s older k

/-- The oldest eligible request of a queue (R50). -/
def oldestEligible (s : State) (older : List (Fin 32)) : List (Fin 32) → Option (Fin 32)
  | [] => none
  | k :: rest => if eligible s older k then some k else oldestEligible s (older ++ [k]) rest

/-- The oldest eligible request of a queue by name. -/
def candidate (s : State) (q : QueueName) : Option (Fin 32) := oldestEligible s [] (queueList s.sched q)

/-- The queue has an eligible request. -/
def hasCandidate (s : State) (q : QueueName) : Bool := (candidate s q).isSome

/-- A pass counter has reached a pass limit that is not 0 (R50). -/
def limitReached (s : State) (count : Nat) : Bool := s.cfg.passLimit != 0 && decide (s.cfg.passLimit.toNat ≤ count)

/-- The queue chosen by the first step that applies (R50). -/
def chosenQueue (s : State) : Option QueueName :=
  if limitReached s s.sched.passBkg && hasCandidate s .background then some .background
  else if limitReached s s.sched.passStd && hasCandidate s .standard then some .standard
  else if hasCandidate s .expedite then some .expedite
  else if hasCandidate s .standard then some .standard
  else if hasCandidate s .background then some .background
  else none

/-- A pass counter that rises stays at 15 (R51). -/
def passRaise (n : Nat) : Nat := min 15 (n + 1)

/-- The pass counters after a choice that puts a request of queue q on the bus (R51). -/
def updatePasses (s : State) (q : QueueName) : Sched :=
  match q with
  | .expedite =>
    { s.sched with
      passStd := (if hasCandidate s .standard then passRaise s.sched.passStd else s.sched.passStd)
      passBkg := (if hasCandidate s .background then passRaise s.sched.passBkg else s.sched.passBkg) }
  | .standard =>
    { s.sched with
      passStd := 0
      passBkg := (if hasCandidate s .background then passRaise s.sched.passBkg else s.sched.passBkg) }
  | .background => { s.sched with passBkg := 0 }

/-- The chain names an enabled window of the part (R54). -/
def localTarget (s : State) (c : List Frame) : Bool :=
  c.any fun f => (tfind (fun w => w.enabled && w.node == f.dest) s.windows).isSome

/-- The wait limit of the node of frame i of a chain, as its entry stands (R79, R91, R94); the limit in force stays where there is no entry (log 24). -/
def waitLimitFor (s : State) (chain : List Frame) (i : Nat) : Byte :=
  match chain[i]? with
  | none => s.engine.waitLimit
  | some f => ((nodeAt f.dest s).map NodeEntry.waitLimitMs).getD s.engine.waitLimit

/-- The engine takes a slot: ARBITRATING, CONTENDING, frame 0, its wait limit; the lines are read at the next REFCLK period (R79). -/
def engineTake (k : Fin 32) (s : State) : State :=
  s.setEngine
    { Engine.reset with
      capture := s.engine.capture
      st := .arbitrating
      held := some k
      arb := .contending
      waitLimit := waitLimitFor s (slotOf s k).chain 0
      phase := .startDue }

/-- The chosen request becomes ACTIVE: frames_done 0, pass counters updated, handed to the engine (R53). -/
def activate (q : QueueName) (k : Fin 32) (s : State) : State :=
  let t := setSlot k { slotOf s k with state := .active, framesDone := 0 } (s.setSched (updatePasses s q))
  engineTake k t

/-- The engine, port and line conditions of a choice (R47). -/
def choiceOpen (s : State) : Bool := s.engine.st == .idle && s.port.state == .running && s.line.state == .quiet

/-- The choice with its LOCAL_TARGET disposals (R47, R50, R54); each disposal takes one of the 32 slots, so 33 rounds are enough. -/
def chooseRounds : Nat → State → State
  | 0, s => s
  | n + 1, s =>
    if choiceOpen s then
      match chosenQueue s with
      | none => s
      | some q =>
        match candidate s q with
        | none => s
        | some k =>
          if localTarget s (slotOf s k).chain then chooseRounds n (complete k .localTarget false s)
          else activate q k s
    else s

/-- The Dispatch Scheduler chooses when the four conditions hold together (R47, R48). -/
def choose (s : State) : State := chooseRounds 33 s

end Sys2Proof.Machine
end

