-- ==== Sys2Proof/Machine/Engine.lean ====
section
/-! DEFINITION. The Controller Engine: frame results and their hand-over, the link decision, bits sent and taken, the clock of a bit time (chapter 5; R2 to R7, R16, R17). -/

namespace Sys2Proof.Machine

/-! ### The port at the engine's entry into IDLE (R175) -/

/-- A stop ends: DISABLED, PORT_STOPPED, the Line Monitor starts again (R175, R18). -/
def stopEnds (s : State) : State :=
  setEvent .portStopped (lineRestart (s.setPort { s.port with state := .disabled }))

/-- Every item at its IDLE value but the capture buffer (R78). -/
def Engine.idled (e : Engine) : Engine := { Engine.reset with capture := e.capture }

/-- The engine enters IDLE with both lines released; a STOPPING port becomes DISABLED (R78, R175). -/
def engineToIdle (s : State) : State :=
  let t := s.setEngine s.engine.idled
  if t.port.state = .stopping then stopEnds t else t

/-! ### Frame results (R93, R94) -/

/-- The held slot with its chain. -/
def heldSlot (s : State) : Option (Fin 32 × Slot) := s.engine.held.map fun k => (k, slotOf s k)

/-- The frame that the engine is running or about to run (R78). -/
def currentFrame (s : State) : Option Frame :=
  (heldSlot s).bind fun p => p.2.chain[s.engine.frameIndex]?

/-- The kind of the engine's frame. -/
def engineKind (s : State) : Option Kind := (currentFrame s).map Frame.kind

/-- The body length of the engine's frame. -/
def engineLen (s : State) : Nat := ((currentFrame s).map Frame.length).getD 0

/-- ACCEPTED at the slot: frames_done rises, and a READ's region is filled from the capture buffer (R89, R93). -/
def acceptFrame (k : Fin 32) (i : Nat) (f : Frame) (s : State) : State :=
  let x := slotOf s k
  let data :=
    match f.kind with
    | .read => copyRegion x.data (regionStart x.chain i) s.engine.capture f.length
    | _ => x.data
  setSlot k { x with framesDone := x.framesDone + 1, data := data } s

/-- The four conditions of a Restart after ACCEPTED (R94). -/
def restartWanted (x : Slot) (i : Nat) (s : State) : Bool :=
  decide (i + 1 < x.chain.length) && !x.cancelPending && s.port.state != .stopping

/-- The link decision is a Restart: LINKING, the next frame, its wait limit (R94). -/
def linkNext (k : Fin 32) (s : State) : State :=
  let e := s.engine
  s.setEngine
    { e with
      st := .linking
      frameIndex := e.frameIndex + 1
      waitLimit := waitLimitFor s (slotOf s k).chain (e.frameIndex + 1) }

/-- Where the engine goes when its attempt has ended (R93): the held slot is absent from then on. In RELEASED and STOPPING the frame position stays as it stood until the entry into IDLE (R85; log 34). -/
def engineAfter (r : FrameResult) (s : State) : State :=
  let e := s.engine
  match r with
  | .busFault =>
    s.setEngine
      { e with
        st := .released, held := none, phase := .none, left := 0, waitTimer := none,
        driveSbck := false, driveSbdt := false, sent := none }
  | .arbLost | .busStuck => engineToIdle s
  | .waitTimeout =>
    s.setEngine
      { e with st := .stopping, held := none, phase := .timeoutWait, left := 0, waitTimer := none, driveSbdt := false, sent := none }
  | _ => s.setEngine { e with st := .stopping, held := none, waitTimer := none, sent := none }

/-- The attempt ends at Outcome Logic, and the flush of a node that this result suspended follows (R70, R93). -/
def endAttempt (k : Fin 32) (r : FrameResult) (dest : Byte) (suspended : Bool) (s : State) : State :=
  let t := attemptEnd k r (s.engine.arb == .won) s
  if suspended then flush dest t else t

/-- A frame result is handed on in its order: the slot, the Node Table, the link decision, the attempt end (R93). -/
def reportResult (r : FrameResult) (s : State) : State :=
  match s.engine.held with
  | none => engineAfter r s
  | some k =>
    match (slotOf s k).chain[s.engine.frameIndex]? with
    | none => engineAfter r s
    | some f =>
      let s1 := if r = .accepted then acceptFrame k s.engine.frameIndex f s else s
      let s2 := nodeResult r f.dest s1
      if r = .accepted ∧ restartWanted (slotOf s2 k) s.engine.frameIndex s2 then linkNext k s2
      else engineAfter r (endAttempt k r f.dest (resultSuspends r f.dest s1) s2)

/-! ### Bits sent (R80, R87, R89) -/

/-- The header of the engine's frame (R80). -/
def engineHeader (s : State) : BitVec 35 :=
  match heldSlot s, currentFrame s with
  | some p, some f => headerOf p.2.prio s.cfg.ownAddr f
  | _, _ => 0

/-- Byte j of the frame's region in the slot's data area (R87). -/
def engineRegionByte (s : State) (j : Nat) : Byte :=
  match heldSlot s with
  | some p => bufferByte p.2.data (regionStart p.2.chain s.engine.frameIndex + j)
  | none => 0

/-- The bit that the engine drives with n bits of the frame taken; none where it releases SBDT in order to take the bit, or leaves the response slot released (R80, R86 to R89). -/
def engineBit (s : State) (n : Nat) : Option Bool :=
  if n < 35 then some ((engineHeader s).getMsbD n)
  else if n < 37 then none
  else if n < 37 + 8 * engineLen s then
    (if engineKind s = some .write then some (byteBit (engineRegionByte s ((n - 37) / 8)) ((n - 37) % 8)) else none)
  else if n < 45 + 8 * engineLen s then
    (if engineKind s = some .write then some (byteBit s.engine.crc (n - 37 - 8 * engineLen s)) else none)
  else if engineKind s = some .read ∧ s.engine.verified then some false
  else none

/-- Bits of the frame taken by the engine. -/
def engineBits (s : State) : Nat :=
  match s.engine.pos with
  | .within n => n
  | _ => 0

/-- The last bit of a frame that has a body (R12). -/
def engineLast (s : State) : Nat := 46 + 8 * engineLen s

/-! ### Bits taken (R81 to R83, R86 to R88) -/

/-- The bit taken is not the one driven. -/
def mismatch (e : Engine) (b : Bool) : Bool := e.sent == some !b

/-- The mismatch is a lost arbitration: bits 1–20 of a first frame, a 1 released and a 0 taken (R16, R81). -/
def losesArbitration (e : Engine) (b : Bool) : Bool := e.st == .arbitrating && e.sent == some true && !b

/-- The engine's record of a bit taken without a mismatch: position, CRC register, capture buffer, and the high phase it counts (R2, R5, R14, R88). -/
def takenBit (s : State) (b : Bool) : Engine :=
  let e := s.engine
  let p := engineBits s + 1
  let body := 8 * engineLen s
  let isRead := engineKind s == some .read
  { e with
    pos := .within p
    phase := .high
    left := highLen s
    sent := none
    crc := if crcCovers p body then crcStep e.crc b else e.crc
    capture := if isRead && decide (38 ≤ p ∧ p ≤ 37 + body) then bufferShiftIn e.capture ((p - 38) / 8) b else e.capture
    check := if isRead && decide (38 + body ≤ p ∧ p ≤ 45 + body) then shiftIn e.check b else e.check }

/-- Arbitration is won at bit 20 (R82). -/
def arbitrationWon (s : State) : State :=
  let e := s.engine
  let t := s.setEngine { e with st := .header, arb := .won }
  match e.held with
  | none => t
  | some k => setSlot k { slotOf t k with attempts := (slotOf t k).attempts + 1 } t

/-- The claim code taken at bit 37 (R86): a READ or WRITE claimed PROCEED goes on into BODY, the capture buffer cleared for a READ (R89). -/
def claimAtEngine (c : ClaimCode) (s : State) : State :=
  let e := s.engine
  if frameGoesOn (engineKind s) c then
    s.setEngine
      { e with
        st := .body
        claim := some c
        check := 0
        verified := false
        capture := if engineKind s = some .read then Vector.replicate 32 0 else e.capture }
  else s.setEngine { e with claim := some c }

/-- What follows at particular bits once one is taken: bit 20 wins arbitration, bit 35 opens the claim slot, bit 37 gives the claim code, then body, check and response slot (R82, R86 to R88; log 9). -/
def afterBit (b : Bool) (s : State) : State :=
  let e := s.engine
  let p := engineBits s
  let body := 8 * engineLen s
  match e.st with
  | .arbitrating => if p = 20 then arbitrationWon s else s
  | .header => if p = 35 then s.setEngine { e with st := .claim } else s
  | .claim =>
    if p = 36 then s.setEngine { e with claimFirst := b }
    else if p = 37 then claimAtEngine (claimOfBits e.claimFirst b) s
    else s
  | .body => if p = 37 + body then s.setEngine { e with st := .check } else s
  | .check => if p = 45 + body then s.setEngine { e with st := .response, verified := engineKind s == some .read && e.check == e.crc } else s
  | .response => s.setEngine { e with respLow := !b }
  | _ => s

/-- The engine takes a bit at a rise of SBCK: a lost bit, a bus fault, or the bit (R81, R83). -/
def engineTakeBit (b : Bool) (s : State) : State :=
  if losesArbitration s.engine b then reportResult .arbLost s
  else if mismatch s.engine b then reportResult .busFault s
  else afterBit b (s.setEngine (takenBit s b))

/-- The high phase of a condition begins (R7). -/
def conditionHigh (s : State) : State := s.setEngine { s.engine with phase := .condFirst, left := halfHigh s }

/-- The Restart can be produced at this rise: SBDT reads high (R95), and the sequence has not been given up (R8; log 12). -/
def restartReady (e : Engine) (b : Bool) : Bool := b && e.pos != .between

/-- A rise of SBCK at the engine, with SBDT at level b: it ends a wait and takes a bit, or begins the high phase of a condition; a Restart that cannot be produced is a bus fault (R3, R7, R91, R92, R95). -/
def engineRise (b : Bool) (s : State) : State :=
  let e := s.engine
  match e.phase with
  | .waiting =>
    let t := s.setEngine { e with waitTimer := none }
    match e.st with
    | .stopping => conditionHigh t
    | .linking => if restartReady e b then conditionHigh t else reportResult .busFault t
    | _ => engineTakeBit b t
  | .timeoutWait => s.setEngine { e with phase := .timeoutHigh, left := highLen s }
  | _ => s

/-! ### The end of a high phase (R4, R90) -/

/-- The result of a frame at the end of its last bit's high phase (R86, R87, R89, R90); none before the last bit. -/
def resultAtEnd (s : State) : Option FrameResult :=
  let e := s.engine
  match e.st with
  | .claim =>
    if engineBits s = 37 then
      match e.claim with
      | some .proceed => some .accepted
      | some .busy => some .busy
      | some .refuse => some .refused
      | some .none => some .noTarget
      | none => none
    else none
  | .response =>
    if engineBits s = engineLast s then
      (if engineKind s = some .read then (if e.verified then some .accepted else some .badCheck)
       else (if e.respLow then some .accepted else some .noResponse))
    else none
  | _ => none

/-- The high phase of a bit ends: at the frame's last bit the result is reported, and the position is BOUNDARY (R5, R90). -/
def bitEnds (s : State) : State :=
  match resultAtEnd s with
  | none => s
  | some r => reportResult r (s.setEngine { s.engine with pos := .boundary })

/-- The Restart is complete: HEADER for bit 1 of the linked frame, CRC register 0xFF, position WITHIN at 0 bits (R95). -/
def restartDone (s : State) : State :=
  s.setEngine { s.engine with st := .header, pos := .within 0, crc := crcInit, claim := none, check := 0, verified := false, respLow := false }

/-- The engine pulls SBCK low and counts its low phase (R2, R4). -/
def pullClock (s : State) : State :=
  s.setEngine { s.engine with driveSbck := true, phase := .lowFirst, left := midLow s }

/-- The Stop cannot be completed: RELEASED with both lines released, and nothing is reported (R97). -/
def engineGivesUpStop (s : State) : State :=
  s.setEngine { s.engine with st := .released, phase := .none, left := 0, driveSbck := false, driveSbdt := false, sent := none }

/-- The engine is past the high phase after its frame's last bit: BOUNDARY becomes BETWEEN (R8). -/
def leaveBoundary (s : State) : State :=
  if s.engine.pos = .boundary then s.setEngine { s.engine with pos := .between } else s

/-- SBCK falls while the engine produces the clock and has released it: by its own count or by another controller it pulls SBCK low at once and counts its low phase (R4). A high phase after the last bit that ends before the condition is on the bus, or that carries none after a wait timeout, leaves the position BETWEEN with the sequence given up (R8, R92; log 12). -/
def engineFall (s : State) : State :=
  match s.engine.phase with
  | .high => pullClock (bitEnds s)
  | .condSecond => pullClock (restartDone s)
  | .condFirst | .stopWait | .timeoutHigh => pullClock (leaveBoundary s)
  | .startHold => pullClock s
  | _ => s

/-! ### Conditions at the engine (R84, R95, R97) -/

/-- A condition in this high phase is one the engine did not produce inside a frame it drives: any bit of the frame, or the high phase before its own Restart (R84, R95). -/
def conditionFaults (s : State) : Bool :=
  match s.engine.phase with
  | .high => true
  | .condFirst => s.engine.st == .linking
  | _ => false

/-- A condition produced by another party at the engine (R84). -/
def engineCondition (s : State) : State := if conditionFaults s then reportResult .busFault s else s

/-- The engine's Stop is on the bus (R97). -/
def engineStopDone (s : State) : Bool := s.engine.st == .stopping && s.engine.phase == .stopWait

/-! ### Start, wait timeout, stuck line (R79, R92, R98) -/

/-- The first-frame Start of R6 and R79: SBDT pulled low, the CRC register loaded, position WITHIN at 0 bits. -/
def engineStartOn (s : State) : State :=
  responderStart
    (sbdtLow
      (s.setEngine
        { s.engine with
          driveSbdt := true
          crc := crcInit
          pos := .within 0
          phase := .startHold
          left := highLen s
          claim := none
          check := 0
          verified := false
          respLow := false }))

/-- The engine reads the lines at the first REFCLK period after the choice (R79). -/
def engineStartEvent (s : State) : State :=
  if s.engine.st = .arbitrating ∧ s.engine.phase = .startDue then
    if bothHigh s ∧ s.line.state = .quiet then engineStartOn s else choose (reportResult .arbLost s)
  else s

/-- The wait timer has reached the wait limit in force while SBCK is still low (R91). -/
def waitDue (s : State) : Bool :=
  s.engine.st.inFrame && s.engine.phase == .waiting &&
    match s.engine.waitTimer with
    | some n => decide (s.engine.waitLimit.toNat ≤ n)
    | none => false

/-- A wait times out (R92). -/
def waitTimeoutEvent (s : State) : State :=
  if waitDue s then choose (reportResult .waitTimeout s) else s

/-- The engine at a stuck line: BUS_STUCK for a frame in progress, and IDLE (R98). -/
def engineStuck (s : State) : State :=
  if s.engine.st.inFrame then reportResult .busStuck s
  else if s.engine.st = .idle then s
  else engineToIdle s

end Sys2Proof.Machine
end

