-- ==== Sys2Proof/Machine/Port.lean ====
section
/-! DEFINITION. The Port Control Unit: PORT_ENABLE, PORT_DISABLE, RECOVER and its sequence, SOFT_RESET, RST# (chapter 9). -/

namespace Sys2Proof.Machine

/-- What a command answers: the state after it, its result code and its result value (R189, R190). -/
structure Reply where
  state : State
  code : ResultCode
  value : Byte
  deriving DecidableEq, Repr

/-- A command refused, or one that changes nothing. -/
def Reply.unchanged (s : State) (c : ResultCode) (v : Byte) : Reply := { state := s, code := c, value := v }

/-- The port is in this state, and nothing else of it changes. -/
def setPortState (p : PortState) (s : State) : State := s.setPort { s.port with state := p }

/-- The port reaches RUNNING: the Line Monitor starts again and the Responder listens (R173, R180). -/
def portRunning (s : State) : State := responderListen (lineRestart (setPortState .running s))

/-! ### PORT_ENABLE and PORT_DISABLE (R173, R174) -/

/-- The port configuration that PORT_ENABLE accepts (R170, R173). -/
def portConfigValid (c : Cfg) : Bool :=
  c.ownAddr != 0 && c.ownAddr != 255 &&
    decide (Config.bitDivMin ≤ c.bitDiv.toNat ∧ c.bitDiv.toNat ≤ Config.bitDivMax)

/-- PORT_ENABLE (R173). -/
def portEnable (s : State) : Reply :=
  if s.port.state ≠ .disabled then .unchanged s .portState 0
  else if portConfigValid s.cfg then { state := choose (portRunning s), code := .ok, value := 0 }
  else .unchanged s .portConfig 0

/-- PORT_DISABLE starts the Line Monitor again, but for a stuck report that is due already: it is taken after the command, and the line state shows STUCK (R18, R177; log 4). -/
def monitorDisabled (s : State) : State := s.setLine { s.line.restarted with stuckDue := s.line.stuckDue }

/-- PORT_DISABLE (R174). -/
def portDisable (s : State) : Reply :=
  match s.port.state with
  | .running =>
    if s.engine.st = .idle then
      { state := setEvent .portStopped (responderOff (monitorDisabled (setPortState .disabled s))), code := .ok, value := 0 }
    else { state := responderOff (setPortState .stopping s), code := .started, value := 0 }
  | .fault => { state := lineRestart (setPortState .disabled s), code := .ok, value := 0 }
  | .disabled | .stopping | .recovering => .unchanged s .portState 0

/-! ### Recovery (R178 to R180) -/

/-- The recovery sequence moves to a phase with a count. -/
def recoveryPhase (p : RecoveryPhase) (n : Nat) (s : State) : State := s.setPort { s.port with recovery := p, left := n }

/-- The sequence is over: both lines released, no phase, no count. -/
def Port.sequenceOver (p : Port) : Port :=
  { p with recovery := .none, left := 0, taken := false, driveSbck := false, driveSbdt := false }

/-- A recovery fails: FAULT, RECOVERY_FAILED (R180). -/
def recoveryFail (s : State) : State :=
  setEvent .recoveryFailed (s.setPort { s.port.sequenceOver with state := .fault })

/-- A recovery succeeds: RUNNING, RECOVERY_DONE; the pulse count stays (R180). -/
def recoverySucceed (s : State) : State :=
  choose (setEvent .recoveryDone (portRunning (s.setPort s.port.sequenceOver)))

/-- A pulse begins: SBCK is pulled low for one low-phase length (R179). -/
def startPulse (s : State) : State :=
  sbckLow (s.setPort { s.port with recovery := .pulseLow, left := lowLen s, driveSbck := true })

/-- The Stop phase begins: SBCK is pulled low, and SBDT follows at the midpoint (R179). -/
def startStop (s : State) : State :=
  sbckLow (s.setPort { s.port with recovery := .stopLow, left := midLow s, driveSbck := true })

/-- RECOVER (R178). -/
def recoverBegin (s : State) : State :=
  let t := s.setPort { s.port with state := .recovering, pulses := 0 }
  if !s.line.sbck then recoveryFail t
  else if !s.line.sbdt then startPulse t
  else startStop t

/-- RECOVER (R178). -/
def recoverCommand (s : State) : Reply :=
  if s.port.state = .fault then { state := recoverBegin s, code := .started, value := 0 }
  else .unchanged s .portState 0

/-- A pulse's low phase is over: SBCK is released, and the pulse count rises (R179). -/
def pulseRelease (s : State) : State :=
  s.setPort
    { s.port with recovery := .pulseRise, left := lowLen s, driveSbck := false, pulses := s.port.pulses + 1 }

/-- The high phase of a pulse is over: the Stop phase, the next pulse, or a failure (R179). -/
def pulseDecide (s : State) : State :=
  if s.port.taken then startStop s
  else if s.port.pulses < Config.maxPulses then startPulse s
  else recoveryFail s

/-- The midpoint of the Stop phase's low phase: SBDT is pulled low (R179). -/
def stopPullData (s : State) : State :=
  sbdtLow (s.setPort { s.port with recovery := .stopData, left := lowLen s - midLow s, driveSbdt := true })

/-- A count of the recovery sequence runs out (R179). -/
def recoveryCountEnd (s : State) : State :=
  match s.port.recovery with
  | .none => s
  | .pulseLow => pulseRelease s
  | .pulseHigh => pulseDecide s
  | .stopLow => stopPullData s
  | .stopData => s.setPort { s.port with recovery := .stopRise, left := lowLen s, driveSbck := false }
  | .stopHalf => s.setPort { s.port with recovery := .stopEnd, left := halfHigh s, driveSbdt := false }
  | .pulseRise | .stopRise | .stopEnd => recoveryFail s

/-- A rise of SBCK at the recovery sequence, with SBDT at level b (R179). -/
def recoveryRise (b : Bool) (s : State) : State :=
  match s.port.recovery with
  | .pulseRise => s.setPort { s.port with recovery := .pulseHigh, left := highLen s, taken := b }
  | .stopRise => recoveryPhase .stopHalf (halfHigh s) s
  | .stopEnd => if b then recoverySucceed s else s
  | _ => s

/-- A rise of SBDT with SBCK high at the recovery sequence: its Stop is on the bus (R179). -/
def recoveryStop (s : State) : State := if s.port.recovery = .stopEnd then recoverySucceed s else s

/-! ### Resets (R181 to R183) -/

/-- A window entry after SOFT_RESET (R125, R167). -/
def Window.softReset (w : Window) : Window := { w with hold := .open, inFrame := false }

/-- Everything that SOFT_RESET sets to its reset values and everything it keeps (R181, R182). -/
def softResetState (s : State) : State :=
  { s with
    events := { s.events with flags := 0 }
    store := Store.reset
    sched := Sched.reset
    nodes := tmap (fun e => e.map NodeEntry.softReset) s.nodes
    engine := Engine.reset
    completions := []
    windows := tmap Window.softReset s.windows
    responder := Responder.reset
    hold := HoldUnit.reset
    line := s.line.restarted
    port := { Port.reset with period := s.port.period } }

/-- SOFT_RESET (R181). -/
def softResetCommand (s : State) : Reply := { state := softResetState s, code := .ok, value := 0 }

/-- RST# rises with CS#, SBCK and SBDT at these levels: every block at its reset values; a CS# already low opens no transaction (R183, R184; log 15). -/
def hardReset (csHigh sbckHigh sbdtHigh : Bool) (s : State) : State :=
  { State.reset with
    pending := s.pending
    host := { HostPort.reset with txn := if csHigh then .closed else .ignoring }
    line := { Line.reset with sbck := sbckHigh, sbdt := sbdtHigh } }

end Sys2Proof.Machine
end

