-- ==== Sys2Proof/Machine/Commands.lean ====
section
/-! DEFINITION. What each host command does at the block that owns it: requests, nodes, windows, holds, notify records (chapters 2, 4, 6, 7, 8). PORT_ENABLE, PORT_DISABLE, RECOVER and SOFT_RESET stand in Port.lean. -/

namespace Sys2Proof.Machine

/-! ### Requests -/

/-- SUBMIT (R34 to R39); a choice may follow (R48). -/
def submitCommand (s : State) : Reply :=
  match submitCheck s with
  | .refused c v => .unchanged s c (BitVec.ofNat 8 v)
  | .passed q c k => { state := choose (placeRequest k q c s), code := .ok, value := assignTag s }

/-- The live slot that a CANCEL argument names: none for 0, above 255, or a tag of no live slot (R121). -/
def cancelTarget (arg : BitVec 16) (s : State) : Option (Fin 32 × Byte) :=
  match byteArg arg with
  | none => none
  | some tag => if tag = 0 then none else (findTag tag s).map fun k => (k, tag)

/-- CANCEL (R121 to R123); a choice may follow the completion of a WAITING request (R48). -/
def cancelCommand (arg : BitVec 16) (s : State) : Reply :=
  match cancelTarget arg s with
  | none => .unchanged s .notFound 0
  | some (k, tag) =>
    match (slotOf s k).state with
    | .waiting => { state := choose (complete k .cancelled false s), code := .ok, value := tag }
    | .active => { state := setSlot k { slotOf s k with cancelPending := true } s, code := .cancelPending, value := tag }
    | .done => .unchanged s .tooLate tag
    | .free => .unchanged s .notFound 0

/-- POP_COMPLETION (R119): the head record leaves, and its slot is FREE. -/
def popCompletionCommand (s : State) : Reply :=
  match s.completions with
  | [] => .unchanged s .empty 0
  | r :: rest => { state := setSlot r.slot Slot.free (s.setCompletions rest), code := .ok, value := r.tag }

/-! ### Nodes (R73, R75, R76) -/

/-- An entry index as a result value. -/
def indexValue {n : Nat} (i : Fin n) : Byte := BitVec.ofNat 8 i.val

/-- The lowest unused entry (R73). -/
def unusedEntry (s : State) : Option (Fin 16) := tfind Option.isNone s.nodes

/-- NODE_WRITE (R73). -/
def nodeWriteCommand (s : State) : Reply :=
  let a := editNodeAddress s.edit
  if a = 0 ∨ a = 255 then .unchanged s .badAddress 0
  else
    match findNode a s with
    | some i =>
      { state := writeEntry s.edit i ((tget s.nodes i).getD (NodeEntry.fresh a)) s, code := .ok, value := indexValue i }
    | none =>
      match unusedEntry s with
      | some i => { state := writeEntry s.edit i (NodeEntry.fresh a) s, code := .ok, value := indexValue i }
      | none => .unchanged s .tableFull 0

/-- The entry in use that a node command's argument names (R75, R76, R189). -/
def nodeTarget (arg : BitVec 16) (s : State) : Option (Fin 16 × NodeEntry) :=
  match byteArg arg with
  | none => none
  | some a =>
    match findNode a s with
    | none => none
    | some i => (tget s.nodes i).map fun n => (i, n)

/-- NODE_REMOVE (R75). -/
def nodeRemoveCommand (arg : BitVec 16) (s : State) : Reply :=
  match nodeTarget arg s with
  | none => .unchanged s .notFound 0
  | some (i, n) =>
    if 0 < n.refs then .unchanged s .nodeInUse (indexValue i)
    else { state := s.setNodes (tset s.nodes i none), code := .ok, value := indexValue i }

/-- NODE_RESUME (R76); a choice may follow (R48). -/
def nodeResumeCommand (arg : BitVec 16) (s : State) : Reply :=
  match nodeTarget arg s with
  | none => .unchanged s .notFound 0
  | some (i, n) =>
    if n.state = .available then .unchanged s .ok (indexValue i)
    else { state := choose (s.setNodes (tset s.nodes i (some n.resumed))), code := .ok, value := indexValue i }

/-! ### Windows (R127 to R129) -/

/-- WINDOW_WRITE (R127; log 28). -/
def windowWriteCommand (arg : BitVec 16) (s : State) : Reply :=
  match windowIndex arg with
  | none => .unchanged s .badWindow 0
  | some i =>
    if (windowOf s i).enabled then .unchanged s .windowEnabled (indexValue i)
    else { state := setWindow i (editWindow s.edit (windowOf s i)) s, code := .ok, value := indexValue i }

/-- Checks 1 to 5 of WINDOW_ENABLE (R128). -/
def windowSettingsValid (w : Window) : Bool :=
  validAddress w.node && decide (1 ≤ w.size.toNat ∧ w.size.toNat ≤ 256) &&
    decide (w.base.toNat + w.size.toNat ≤ Config.pageBytes) && w.access != .code3 &&
    (w.contention == .answerBusy || w.stallMs != 0)

/-- An enabled window with this node (R128, check 6). -/
def enabledWith (node : Byte) (s : State) : Option (Fin 8) := tfind (fun w => w.enabled && w.node == node) s.windows

/-- WINDOW_ENABLE (R128). -/
def windowEnableCommand (arg : BitVec 16) (s : State) : Reply :=
  match windowIndex arg with
  | none => .unchanged s .badWindow 0
  | some i =>
    if (windowOf s i).enabled then .unchanged s .ok (indexValue i)
    else if !windowSettingsValid (windowOf s i) then .unchanged s .badWindow (indexValue i)
    else
      match enabledWith (windowOf s i).node s with
      | some j => .unchanged s .duplicate (indexValue j)
      | none => { state := setWindow i { windowOf s i with enabled := true } s, code := .ok, value := indexValue i }

/-- The Responder is stalling for this window (R129, R157). -/
def stallingFor (s : State) (i : Fin 8) : Bool := s.responder.st == .stalling && s.hold.stallWindow == some i

/-- WINDOW_DISABLE (R129). -/
def windowDisableCommand (arg : BitVec 16) (s : State) : Reply :=
  match windowIndex arg with
  | none => .unchanged s .badWindow 0
  | some i =>
    if !(windowOf s i).enabled then .unchanged s .ok (indexValue i)
    else if (windowOf s i).inFrame || stallingFor s i then .unchanged s .windowActive (indexValue i)
    else { state := setWindow i { windowOf s i with enabled := false, hold := .open } s, code := .ok, value := indexValue i }

/-! ### Holds and notify records (R151, R153, R165) -/

/-- The hold of a window changes, and a running stall is evaluated again (R158). -/
def changeHold (i : Fin 8) (h : HoldState) (s : State) : State :=
  reevaluateStall (setWindow i { windowOf s i with hold := h } s)

/-- HOLD_WINDOW (R151). -/
def holdWindowCommand (arg : BitVec 16) (s : State) : Reply :=
  match windowIndex arg with
  | none => .unchanged s .badWindow 0
  | some i =>
    if !(windowOf s i).enabled then .unchanged s .badWindow (indexValue i)
    else
      match (windowOf s i).hold with
      | .open =>
        if (windowOf s i).inFrame then { state := changeHold i .pending s, code := .pending, value := indexValue i }
        else { state := changeHold i .held s, code := .held, value := indexValue i }
      | .pending => .unchanged s .pending (indexValue i)
      | .held => .unchanged s .held (indexValue i)

/-- RELEASE_WINDOW (R153). -/
def releaseWindowCommand (arg : BitVec 16) (s : State) : Reply :=
  match windowIndex arg with
  | none => .unchanged s .badWindow 0
  | some i =>
    match (windowOf s i).hold with
    | .open => .unchanged s .notHeld (indexValue i)
    | .pending | .held => { state := changeHold i .open s, code := .ok, value := indexValue i }

/-- POP_NOTIFY (R165): the head record leaves, and a running stall is evaluated again (R158). -/
def popNotifyCommand (s : State) : Reply :=
  match s.hold.queue with
  | [] => .unchanged s .empty 0
  | r :: rest =>
    { state := reevaluateStall (s.setHold { s.hold with queue := rest }), code := .ok, value := r.sequence }

end Sys2Proof.Machine
end

