-- ==== Sys2Proof/Machine/HostPort.lean ====
section
/-! DEFINITION. The Host Port: the register window as it reads, its writes, the command word and the result word, SPI transactions (chapter 10). -/

namespace Sys2Proof.Machine

/-! ### The words as they read (R188, R193 to R204; their fields in the order of section 10.8, the highest first) -/

/-- Word 0x001 (R196). -/
def portConfigurationWord (c : Cfg) : Word := 0#10 ++ c.quietSel ++ 0#1 ++ c.bitDiv ++ c.ownAddr

/-- Word 0x002 (R196). -/
def timingConfigurationWord (c : Cfg) : Word := 0#20 ++ c.passLimit ++ c.stuckLimit

/-- Word 0x003 (R196). -/
def queueLimitsWord (c : Cfg) : Word := 0#10 ++ c.limitBkg ++ 0#2 ++ c.limitStd ++ 0#2 ++ c.limitExp

/-- Word 0x005, the result word (R190). -/
def resultWord (h : HostPort) : Word :=
  match h.last with
  | none => 0
  | some (c, v) => h.counter ++ 0#8 ++ v ++ resultCode c

/-- Word 0x008, the port status word (R193, R197). -/
def portStatusWord (s : State) : Word :=
  0#10 ++ BitVec.ofBool s.hold.reasonFull ++ BitVec.ofBool s.hold.reasonHeld ++
    BitVec.ofBool s.hold.stallWindow.isSome ++ BitVec.ofNat 3 ((s.hold.stallWindow.map Fin.val).getD 0) ++
    BitVec.ofNat 4 (responderCode s.responder.st) ++ BitVec.ofNat 4 (engineCode s.engine.st) ++ 0#2 ++
    BitVec.ofNat 2 (lineCode s.line.state) ++ 0#1 ++ BitVec.ofNat 3 (portCode s.port.state)

/-- Word 0x009 (R194, R197). -/
def queueCountsWord (s : State) : Word :=
  0#2 ++ BitVec.ofNat 6 (freeSlots s) ++ 0#2 ++ BitVec.ofNat 6 s.sched.bkg.length ++ 0#2 ++
    BitVec.ofNat 6 s.sched.std.length ++ 0#2 ++ BitVec.ofNat 6 s.sched.exp.length

/-- Word 0x00A (R194, R197). -/
def queueStatusWord (s : State) : Word :=
  0#15 ++ BitVec.ofBool s.hold.reservation ++ 0#3 ++ BitVec.ofNat 5 s.hold.queue.length ++ 0#2 ++
    BitVec.ofNat 6 s.completions.length

/-- Words 0x020 + 2k and 0x021 + 2k of a node entry (R77, R202). -/
def nodeViewWord (e : Option NodeEntry) (second : Bool) : Word :=
  match e with
  | none => 0
  | some n =>
    if second then 0#8 ++ n.waitLimitMs ++ n.backoffMs ++ n.failThreshold ++ 0#1 ++ n.retryLimit
    else
      BitVec.ofNat 8 n.backoffLeft ++ 0#2 ++ BitVec.ofNat 6 n.refs ++ BitVec.ofNat 4 n.failCount ++ 0#2 ++
        BitVec.ofNat 2 (nodeStateCode n.state) ++ n.address

/-- Words 0x080 + 2k and 0x081 + 2k of a window entry (R126, R203). -/
def windowViewWord (w : Window) (second : Bool) : Word :=
  if second then
    BitVec.ofBool w.enabled ++ 0#2 ++ BitVec.ofBool w.inFrame ++ BitVec.ofNat 2 (holdCode w.hold) ++ 0#4 ++
      BitVec.ofNat 1 (contentionCode w.contention) ++ BitVec.ofBool w.notify ++ 0#2 ++
      BitVec.ofNat 2 (accessCode w.access) ++ w.stallMs ++ w.node
  else 0#7 ++ w.size ++ 0#6 ++ w.base

/-- Words 0x060 and 0x061, the completion head record (R116, R199). -/
def headRecordWord (l : List CompletionRecord) (second : Bool) : Word :=
  match l with
  | [] => 0
  | r :: _ =>
    if second then
      0#7 ++ BitVec.ofBool r.failNode.isSome ++ r.failNode.getD 0 ++ 0#3 ++ BitVec.ofBool r.failIndex.isSome ++ 0#2 ++
        BitVec.ofNat 2 (r.failIndex.getD 0) ++ BitVec.ofNat 8 r.arbLosses
    else
      1#1 ++ 0#3 ++ BitVec.ofNat 4 (outcomeCode r.outcome) ++ 0#1 ++ BitVec.ofNat 7 r.dataLength ++
        BitVec.ofNat 4 r.attempts ++ 0#1 ++ BitVec.ofNat 3 r.framesDone ++ r.tag

/-- Word 0x062 + m, the data area of the head record's slot (R117). -/
def headDataWord (s : State) (m : Nat) : Word :=
  match s.completions with
  | [] => 0
  | r :: _ =>
    let d := (slotOf s r.slot).data
    wordOfBytes (bufferByte d (4 * m)) (bufferByte d (4 * m + 1)) (bufferByte d (4 * m + 2)) (bufferByte d (4 * m + 3))

/-- Word 0x078, the notify head record (R165, R200, R201). -/
def notifyHeadWord (q : List NotifyRecord) : Word :=
  match q with
  | [] => 0
  | r :: _ => BitVec.ofNat 3 r.window.val ++ r.offset ++ BitVec.ofNat 5 (r.length - 1) ++ r.source ++ r.sequence

/-- Entry k of the node table view; nothing beyond the table. -/
def nodeEntryAt (s : State) (k : Nat) : Option NodeEntry := if h : k < 16 then tget s.nodes ⟨k, h⟩ else none

/-- Word a of a view of pairs. -/
def secondOf (a : Nat) : Bool := a % 2 == 1

/-- The words of the register window below the staging area (R188). -/
def readLow (s : State) (a : Nat) : Word :=
  if a = 0x000 then Config.identification
  else if a = 0x001 then portConfigurationWord s.cfg
  else if a = 0x002 then timingConfigurationWord s.cfg
  else if a = 0x003 then queueLimitsWord s.cfg
  else if a = 0x005 then resultWord s.host
  else if a = 0x006 then s.events.flags.setWidth 32
  else if a = 0x007 then s.events.enables.setWidth 32
  else if a = 0x008 then portStatusWord s
  else if a = 0x009 then queueCountsWord s
  else if a = 0x00A then queueStatusWord s
  else if a = 0x010 then s.edit.node0
  else if a = 0x011 then s.edit.node1
  else if a = 0x012 then s.edit.window0
  else if a = 0x013 then s.edit.window1
  else if 0x020 ≤ a ∧ a ≤ 0x03F then nodeViewWord (nodeEntryAt s ((a - 0x020) / 2)) (secondOf a)
  else 0

/-- The words of the register window from the staging area up (R188). -/
def readHigh (s : State) (a : Nat) : Word :=
  if a ≤ 0x054 then stagingWord s.edit (a - 0x040)
  else if a = 0x060 ∨ a = 0x061 then headRecordWord s.completions (secondOf a)
  else if 0x062 ≤ a ∧ a ≤ 0x071 then headDataWord s (a - 0x062)
  else if a = 0x078 then notifyHeadWord s.hold.queue
  else if h : 0x080 ≤ a ∧ a ≤ 0x08F then windowViewWord (windowOf s ⟨(a - 0x080) / 2, by omega⟩) (secondOf a)
  else if 0x100 ≤ a then s.page.readWord (a - 0x100)
  else 0

/-- A word of the register window as it stands (R188). -/
def readLive (s : State) (addr : BitVec 9) : Word :=
  if addr.toNat < 0x040 then readLow s addr.toNat else readHigh s addr.toNat

/-! ### Read transactions (R187) -/

/-- The words of the frozen group that a word belongs to; none for a word on its own (R187). -/
def groupOf (a : Nat) : List Nat :=
  if 0x060 ≤ a ∧ a ≤ 0x071 then (List.range 18).map (0x060 + ·)
  else if a = 0x009 ∨ a = 0x00A then [0x009, 0x00A]
  else if (0x020 ≤ a ∧ a ≤ 0x03F) ∨ (0x080 ≤ a ∧ a ≤ 0x08F) then [a / 2 * 2, a / 2 * 2 + 1]
  else []

/-- The words frozen when a word of a group is the first of its group in the transaction (R187). -/
def freezeGroup (s : State) (a : Nat) : List (Nat × Word) :=
  (groupOf a).map fun x => (x, readLive s (BitVec.ofNat 9 x))

/-- The frozen words of the transaction once word a is read (R187). -/
def frozenFor (s : State) (a : Nat) : List (Nat × Word) :=
  if (s.host.frozen.lookup a).isSome then s.host.frozen else s.host.frozen ++ freezeGroup s a

/-- The value of a word in the open read transaction (R187). -/
def readValue (s : State) : Word := (s.host.frozen.lookup s.host.pointer.toNat).getD (readLive s s.host.pointer)

/-- The part takes the next word of a read transaction and begins to shift it out; the pointer rises by one (R187). -/
def takeReadWord (s : State) : State :=
  s.setHost
    { s.host with
      miso := some (readValue s)
      shifting := true
      frozen := frozenFor s s.host.pointer.toNat
      pointer := s.host.pointer + 1 }

/-- What the part does with MISO. -/
inductive MisoDrive where
  | highZ
  | low
  | word (w : Word)
  deriving DecidableEq, Repr

/-- MISO: high impedance with CS# high, low in the header and the turnaround and in a malformed transaction, and the word being sent in a read (R184, R185, R187; log 14). It is low as well in the data words of a write, and while a CS# that was low as RST# rose stays low (log 36). -/
def misoDrive (s : State) : MisoDrive :=
  match s.host.txn, s.host.miso with
  | .closed, _ => .highZ
  | .reading, some w => .word w
  | _, _ => .low

/-! ### Configuration and limit words (R42, R52, R170, R171) -/

/-- A whole write of word 0x001: stored in DISABLED only; the Tb of the quiet timer in progress starts again (R19, R170). -/
def writePortConfiguration (w : Word) (s : State) : State :=
  if s.port.state = .disabled then
    (s.setCfg
      { s.cfg with ownAddr := w.extractLsb' 0 8, bitDiv := w.extractLsb' 8 11, quietSel := w.extractLsb' 20 2 }).setLine
      { s.line with quietPart := 0 }
  else s

/-- A whole write of word 0x002: a stuck limit of 0 is not stored (R52, R171). -/
def writeTiming (w : Word) (s : State) : State :=
  s.setCfg
    { s.cfg with
      stuckLimit := (if w.extractLsb' 0 8 = 0#8 then s.cfg.stuckLimit else w.extractLsb' 0 8)
      passLimit := w.extractLsb' 8 4 }

/-- A limit written 1–32 is taken; any other keeps the previous value (R42). -/
def limitWritten (old new : BitVec 6) : BitVec 6 := if 1 ≤ new.toNat ∧ new.toNat ≤ 32 then new else old

/-- A whole write of word 0x003 (R42). -/
def writeQueueLimits (w : Word) (s : State) : State :=
  s.setCfg
    { s.cfg with
      limitExp := limitWritten s.cfg.limitExp (w.extractLsb' 0 6)
      limitStd := limitWritten s.cfg.limitStd (w.extractLsb' 8 6)
      limitBkg := limitWritten s.cfg.limitBkg (w.extractLsb' 16 6) }

/-- A write of the events word clears every flag whose bit is 1 (R191). -/
def writeEvents (w : Word) (s : State) : State :=
  s.setEvents { s.events with flags := s.events.flags &&& ~~~(w.extractLsb' 0 11) }

/-- A write of the event enables word (R192). -/
def writeEnables (w : Word) (s : State) : State := s.setEvents { s.events with enables := w.extractLsb' 0 11 }

/-! ### Commands (R189, R190) -/

/-- A command is taken: the counter rises, the owner carries it out, and the result is posted (R189). -/
def runCommand (body : State → Reply) (s : State) : State :=
  let r := body (s.setHost { s.host with counter := s.host.counter + 1 })
  r.state.setHost { r.state.host with last := some (r.code, r.value) }

/-- A code that is not listed (R189). -/
def badCommandReply (s : State) : Reply := .unchanged s .badCommand 0

/-- The owner's part of a command word (R189). -/
def commandBody (code : BitVec 8) (arg : BitVec 16) : State → Reply :=
  if code = 0x01 then submitCommand
  else if code = 0x02 then cancelCommand arg
  else if code = 0x03 then popCompletionCommand
  else if code = 0x04 then popNotifyCommand
  else if code = 0x10 then nodeWriteCommand
  else if code = 0x11 then nodeRemoveCommand arg
  else if code = 0x12 then nodeResumeCommand arg
  else if code = 0x20 then windowWriteCommand arg
  else if code = 0x21 then windowEnableCommand arg
  else if code = 0x22 then windowDisableCommand arg
  else if code = 0x23 then holdWindowCommand arg
  else if code = 0x24 then releaseWindowCommand arg
  else if code = 0x30 then portEnable
  else if code = 0x31 then portDisable
  else if code = 0x32 then recoverCommand
  else if code = 0x3F then softResetCommand
  else badCommandReply

/-- A whole write of the command word (R189). -/
def issueCommand (w : Word) (s : State) : State := runCommand (commandBody (w.extractLsb' 0 8) (w.extractLsb' 16 16)) s

/-! ### Word writes (R186, R188) -/

/-- A staging word is written; the bits that it does not hold read 0 (R33, R198). -/
def writeStaging (i : Nat) (w : Word) (s : State) : State :=
  if h : i < 21 then s.setEdit { s.edit with staging := tset s.edit.staging ⟨i, h⟩ (w &&& maskStaging i) } else s

/-- The effect of a whole write at an address (R188). -/
def wordEffect (a : Nat) (w : Word) (s : State) : State :=
  if a = 0x001 then writePortConfiguration w s
  else if a = 0x002 then writeTiming w s
  else if a = 0x003 then writeQueueLimits w s
  else if a = 0x004 then issueCommand w s
  else if a = 0x006 then writeEvents w s
  else if a = 0x007 then writeEnables w s
  else if a = 0x010 then s.setEdit { s.edit with node0 := w &&& maskNode0 }
  else if a = 0x011 then s.setEdit { s.edit with node1 := w &&& maskNode1 }
  else if a = 0x012 then s.setEdit { s.edit with window0 := w &&& maskWindow0 }
  else if a = 0x013 then s.setEdit { s.edit with window1 := w &&& maskWindow1 }
  else if 0x040 ≤ a ∧ a ≤ 0x054 then writeStaging (a - 0x040) w s
  else if 0x100 ≤ a then s.setPage (s.page.writeWord (a - 0x100) w)
  else s

/-- The pointer rises by one, from 511 to 0 (R186). -/
def pointerUp (s : State) : State := s.setHost { s.host with pointer := s.host.pointer + 1 }

/-- A whole word can be written at this address now: a write transaction is open, and its pointer stands there (R186; log 13). -/
def canWrite (a : BitVec 9) (s : State) : Bool := s.host.txn == .writing && s.host.pointer == a

/-- A whole write at an address, where it can occur: its effect, and the pointer rises (R186). -/
def wordWrite (a : BitVec 9) (effect : State → State) (s : State) : State :=
  if canWrite a s then pointerUp (effect s) else s

/-- A command by its own row: a whole write of the command word, 0x004 (R189). -/
def hostCommand (body : State → Reply) (s : State) : State := wordWrite 0x004 (runCommand body) s

/-! ### SPI transactions (R184, R185) -/

/-- CS# falls: the part takes a header (R184). -/
def openTransaction (s : State) : State :=
  if s.host.txn = .closed then s.setHost { s.host with txn := .header, frozen := [], miso := none, shifting := false } else s

/-- The header bits 14–9 are all 0 (R184, R185). -/
def headerValid (h : BitVec 16) : Bool := h.extractLsb' 9 6 == 0

/-- The 16th header bit is taken (R184, R185). -/
def takeHeader (h : BitVec 16) (s : State) : State :=
  if s.host.txn = .header then
    if headerValid h then
      s.setHost { s.host with pointer := h.extractLsb' 0 9, txn := if h.getLsbD 15 then .reading else .writing }
    else setEvent .hostFormat (s.setHost { s.host with txn := .ignoring })
  else s

/-- CS# rises: the transaction ends, and what is incomplete is dropped (R184 to R187). -/
def closeTransaction (s : State) : State :=
  if s.host.txn = .closed then s
  else s.setHost { s.host with txn := .closed, frozen := [], miso := none, shifting := false }

end Sys2Proof.Machine
end

