-- ==== Sys2Proof/Machine/Bus.lean ====
section
/-! DEFINITION. The events of the two lines as every block of the part takes them: falls, rises, conditions, the ends of the part's own counts, QUIET and STUCK (chapter 1; R132, R158, R176, R179). -/

namespace Sys2Proof.Machine

/-! ### Changes of the lines -/

/-- SBCK falls: the engine first, which pulls SBCK low at once, then the Responder (R4, R132; log 10). -/
def clockFalls (s : State) : State := responderFall (engineFall (sbckLow s))

/-- SBDT falls while SBCK is high: a Start for every follower (R5, R84). -/
def startSeen (s : State) : State := responderStart (engineCondition (sbdtLow s))

/-- The engine at a rise of SBDT with SBCK high: its own Stop takes it to IDLE, any other is a condition (R84, R97). -/
def engineStopSeen (s : State) : State := if engineStopDone s then engineToIdle s else engineCondition s

/-- SBDT rises while SBCK is high: a Stop for every follower; a choice may follow the engine's entry into IDLE (R5, R97, R48). -/
def stopSeen (s : State) : State := choose (recoveryStop (responderClose (engineStopSeen (sbdtHigh s))))

/-- SBCK rises with SBDT at level b: every follower takes the bit or the high phase of a condition, the engine first (R2, R5; log 10). -/
def clockRises (b : Bool) (s : State) : State := choose (recoveryRise b (responderRise b (engineRise b (sbckHigh s))))

/-! ### The Responder's own counts (R2, R132, R142, R158) -/

/-- The commit that goes with the drive of ACCEPT: only in the low phase of the response slot (R142; log 21). -/
def commitNow (s : State) : State :=
  match s.responder.window with
  | some i => if s.responder.commits && !s.line.sbck then commitWrite i s else s
  | none => s

/-- SBDT is driven low by the Responder: a level in the low phase, a Start for every follower in a high phase (R2, R5). -/
def responderPulls (s : State) : State :=
  if !s.line.sbdt then s else if s.line.sbck then startSeen s else sbdtLow s

/-- 10 REFCLK periods after a fall: SBDT takes the level that the Responder sends (R2, R132). -/
def responderSets (s : State) : State :=
  match s.responder.delay with
  | none => s
  | some _ =>
    let t := commitNow s
    let u := t.setResponder { t.responder with delay := none, want := false, commits := false, driveSbdt := s.responder.want }
    if s.responder.want then responderPulls u else u

/-- 10 REFCLK periods after a stall's first claim bit: SBCK is released (R158, R159). -/
def responderReleases (s : State) : State :=
  match s.responder.release with
  | none => s
  | some _ => s.setResponder { s.responder with driveSbck := false, release := none }

/-- The Responder's count runs out. -/
def responderCountEnd (s : State) : State := responderReleases (responderSets s)

/-! ### The part's counts as controller (R2, R6, R7, R92, R95, R97) -/

/-- SBDT at the midpoint of a low phase: released for a Restart, low for a Stop, and the bit of the frame otherwise (R2, R7). -/
def engineSetsData (s : State) : State :=
  let e := s.engine
  match e.st with
  | .linking => s.setEngine { e with driveSbdt := false, sent := none }
  | .stopping => sbdtLow (s.setEngine { e with driveSbdt := true, sent := none })
  | _ =>
    let bit := engineBit s (engineBits s)
    let t := s.setEngine { e with driveSbdt := bit == some false, sent := bit }
    if bit = some false then sbdtLow t else t

/-- The midpoint of the low-phase count (R2). -/
def engineMidpoint (s : State) : State :=
  let t := engineSetsData s
  t.setEngine { t.engine with phase := .lowSecond, left := lowLen s - midLow s }

/-- The low-phase count is over: SBCK is released; in a frame the wait timer starts at 0 (R3, R91; log 19). -/
def engineReleasesClock (s : State) : State :=
  let e := s.engine
  s.setEngine
    { e with
      driveSbck := false
      phase := .waiting
      left := 0
      waitTimer := if e.st.inFrame then some 0 else none }

/-- Half the high phase of a condition is over: the Restart's fall of SBDT, or the release for the Stop (R7). -/
def engineCondHalf (s : State) : State :=
  let e := s.engine
  if e.st = .linking then
    responderStart (sbdtLow (s.setEngine { e with driveSbdt := true, phase := .condSecond, left := highLen s - halfHigh s }))
  else s.setEngine { e with driveSbdt := false, phase := .stopWait, left := halfHigh s }

/-- A count of the engine runs out. -/
def engineCountEnd (s : State) : State :=
  match s.engine.phase with
  | .startHold | .high | .condSecond | .timeoutHigh => clockFalls s
  | .lowFirst => engineMidpoint s
  | .lowSecond => engineReleasesClock s
  | .condFirst => engineCondHalf s
  | .stopWait => engineGivesUpStop s
  | .none | .startDue | .waiting | .timeoutWait => s

/-- A count of the part as controller runs out: of the recovery sequence while it runs, of the engine otherwise. -/
def controllerCountEnd (s : State) : State :=
  if s.port.recovery = .none then engineCountEnd s else recoveryCountEnd s

/-! ### The line state (R18 to R22, R176) -/

/-- The line state becomes QUIET: every open frame is given up, an engine in RELEASED enters IDLE, and a choice may follow (R8, R20, R85, R48). -/
def becomeQuiet (s : State) : State :=
  let t := responderClose (s.setLine { s.line with state := .quiet })
  choose (if t.engine.st = .released then engineToIdle t else t)

/-- The Port Control Unit at a stuck line (R176). -/
def portStuck (s : State) : State :=
  match s.port.state with
  | .running => setEvent .portFault (engineStuck (responderOff (setPortState .fault s)))
  | .stopping => engineStuck s
  | .disabled | .fault | .recovering => s

/-- The line state becomes STUCK: every open frame is given up, and the port acts (R8, R22, R176). -/
def becomeStuck (s : State) : State :=
  portStuck
    (responderClose (s.setLine { s.line with state := .stuck, quietTb := 0, quietPart := 0, stuckDue := false }))

/-! ### When a line event can occur (log 1) -/

/-- SBCK can rise: it reads low and the part does not hold it. -/
def canRise (s : State) : Bool := !s.line.sbck && !ownSbck s

/-- A rise of SBCK, where it can occur (R5). -/
def riseEvent (s : State) : State := if canRise s then clockRises s.line.sbdt s else s

/-- A rise of SBCK after the Responder's 10 periods have passed (R2; log 8). -/
def settledRise (s : State) : State := if canRise (responderCountEnd s) then riseEvent (responderCountEnd s) else s

/-- A fall of SBCK, where it can occur (R4). -/
def fallEvent (s : State) : State := if s.line.sbck then clockFalls s else s

/-- A fall of SBDT while SBCK is high, where it can occur (R5). -/
def startEvent (s : State) : State := if bothHigh s then startSeen s else s

/-- A rise of SBDT while SBCK is high, where it can occur (R5). -/
def stopEvent (s : State) : State := if s.line.sbck && !s.line.sbdt && !ownSbdt s then stopSeen s else s

/-- SBDT changes while SBCK is low, where it can occur (R21). It does not rise while the part drives it low (R1), so the driven 0 taken as 1 of R17, R83 and R107 is not reached by a command (log 38). -/
def dataEvent (s : State) : State :=
  if s.line.sbck then s
  else if s.line.sbdt then sbdtLow s
  else if ownSbdt s then s
  else sbdtHigh s

/-- No count of REFCLK periods of the part runs. -/
def noCount (s : State) : Bool :=
  s.engine.phase == .none && s.port.recovery == .none && s.responder.delay.isNone && s.responder.release.isNone

/-- The quiet time can run out now: both lines high, ACTIVE, and no count of the part still to end first (R19). -/
def canQuiet (s : State) : Bool := bothHigh s && s.line.state == .active && noCount s

/-- The quiet timer reaches the quiet time (R19; log 5). -/
def quietEvent (s : State) : State :=
  if canQuiet s then
    becomeQuiet (s.setLine { s.line with quietTb := max s.line.quietTb (quietTime s.cfg), quietPart := 0 })
  else s

/-- The stuck timer has reached the stuck limit at this tick (R21; log 4). -/
def canStick (s : State) : Bool := s.line.stuckDue && s.line.state != .stuck

/-- The line state becomes STUCK at the tick of the stuck limit (R21). -/
def stuckEvent (s : State) : State := if canStick s then becomeStuck s else s

end Sys2Proof.Machine
end

