-- ==== Sys2Proof/Machine/Timers.lean ====
section
/-! DEFINITION. The ms tick at every ms timer, and the expiries that are due at it (R168; chapters 1, 3, 4, 5, 8). -/

namespace Sys2Proof.Machine

/-- A RUNNING deadline timer counts down; 0 says that the tick of its expiry has come (R56; log 4). -/
def DeadlineTimer.tick : DeadlineTimer → DeadlineTimer
  | .off => .off
  | .running n => .running (n - 1)
  | .lapsed => .lapsed

/-- The stuck timer at a tick (R21); a report already due stays due (log 4). -/
def stuckTick (s : State) : Line :=
  if stuckAdvances s then
    { s.line with
      stuckMs := s.line.stuckMs + 1
      stuckDue := s.line.stuckDue || decide (s.cfg.stuckLimit.toNat ≤ s.line.stuckMs + 1) }
  else s.line

/-- A ms tick: the period count wraps, and every ms timer of the part counts it (R168). -/
def msTick (s : State) : State :=
  { s with
    port := { s.port with period := 0 }
    sched := { s.sched with timers := tmap DeadlineTimer.tick s.sched.timers }
    nodes := tmap (fun e => e.map NodeEntry.tick) s.nodes
    engine := { s.engine with waitTimer := s.engine.waitTimer.map (· + 1) }
    hold := { s.hold with stallTimer := s.hold.stallTimer.map (· - 1) }
    line := stuckTick s }

/-- The deadline timer of this slot has run out (R56). -/
def deadlineDue (k : Fin 32) (s : State) : Bool := timerOf s k == .running 0

/-- A deadline timer expires: a WAITING request completes EXPIRED and a choice may follow; an ACTIVE slot's timer is LAPSED (R57, R58, R48). -/
def deadlineExpires (k : Fin 32) (s : State) : State :=
  if deadlineDue k s then
    match (slotOf s k).state with
    | .waiting => choose (complete k .expired false s)
    | .active => setTimer k .lapsed s
    | .free | .done => s
  else s

/-- A backoff expires, and a choice may follow (R67, R48). -/
def backoffExpires (i : Fin 16) (s : State) : State :=
  if backoffDue (tget s.nodes i) then
    choose (s.setNodes (tset s.nodes i ((tget s.nodes i).map NodeEntry.backoffExpired)))
  else s

/-- The stall timer has run out (R159). -/
def stallDue (s : State) : Bool := s.responder.st == .stalling && s.hold.stallTimer == some 0

/-- The stall timer expires: the stall ends with BUSY (R159). -/
def stallExpires (s : State) : State := if stallDue s then endStall .busy s else s

end Sys2Proof.Machine
end

