-- ==== Sys2Proof/Machine/Clock.lean ====
section
/-! DEFINITION. What the part does by itself when no command waits: a due expiry, a word of an open read transaction, or one REFCLK period (R168, R2, R19, R79, R132, R158, R179, R187; log 3). -/

namespace Sys2Proof.Machine

/-! ### One REFCLK period -/

/-- The time base (R168). -/
def timeBasePeriod (s : State) : State :=
  if s.port.period + 1 < Config.refclkPerMs then s.setPort { s.port with period := s.port.period + 1 } else msTick s

/-- The Responder's count to its change of SBDT (R2, R132). -/
def delayPeriod (s : State) : State :=
  match s.responder.delay with
  | none => s
  | some n => if n ≤ 1 then responderSets s else s.setResponder { s.responder with delay := some (n - 1) }

/-- The Responder's count to its release of SBCK (R158). -/
def releasePeriod (s : State) : State :=
  match s.responder.release with
  | none => s
  | some n => if n ≤ 1 then responderReleases s else s.setResponder { s.responder with release := some (n - 1) }

/-- The engine has a count in progress. -/
def engineCounts (s : State) : Bool :=
  match s.engine.phase with
  | .none | .startDue | .waiting | .timeoutWait => false
  | _ => true

/-- The engine: the first period after a choice, or one period of its count (R2, R79). -/
def enginePeriod (s : State) : State :=
  if s.engine.phase = .startDue then engineStartEvent s
  else if engineCounts s then
    (if s.engine.left ≤ 1 then engineCountEnd s else s.setEngine { s.engine with left := s.engine.left - 1 })
  else s

/-- One period of the recovery sequence's count (R179). -/
def recoveryPeriod (s : State) : State :=
  if s.port.recovery = .none then s
  else if s.port.left ≤ 1 then recoveryCountEnd s
  else s.setPort { s.port with left := s.port.left - 1 }

/-- A whole Tb of the quiet timer (R19; log 27). -/
def quietTbCounted (s : State) : State :=
  let t := s.setLine { s.line with quietPart := 0, quietTb := min Config.quietMax (s.line.quietTb + 1) }
  if t.line.state = .active ∧ quietTime t.cfg ≤ t.line.quietTb then becomeQuiet t else t

/-- One period of the quiet timer (R19). -/
def quietPeriod (s : State) : State :=
  if bothHigh s && s.line.state != .stuck then
    (if s.line.quietPart + 1 < quietTbLen s.cfg then s.setLine { s.line with quietPart := s.line.quietPart + 1 }
     else quietTbCounted s)
  else s

/-- One REFCLK period of the part (log 3). -/
def clockPeriod (s : State) : State :=
  quietPeriod (recoveryPeriod (enginePeriod (releasePeriod (delayPeriod (timeBasePeriod s)))))

/-! ### With no command waiting -/

/-- The first due expiry, in the order of log 3: deadlines, backoffs, the wait timer, the stall timer, the stuck timer. -/
inductive Due where
  | deadline (k : Fin 32)
  | backoff (i : Fin 16)
  | wait
  | stall
  | stuck
  deriving DecidableEq, Repr

/-- Which expiry is due (log 4). -/
def nextDue (s : State) : Option Due :=
  match tfind (fun t => t == .running 0) s.sched.timers with
  | some k => some (.deadline k)
  | none =>
    match tfind backoffDue s.nodes with
    | some i => some (.backoff i)
    | none => if waitDue s then some .wait else if stallDue s then some .stall else if canStick s then some .stuck else none

/-- The due expiry is taken. -/
def takeDue (s : State) : Due → State
  | .deadline k => deadlineExpires k s
  | .backoff i => backoffExpires i s
  | .wait => waitTimeoutEvent s
  | .stall => stallExpires s
  | .stuck => stuckEvent s

/-- A read transaction is open and the part is to take its next word (R187; log 14). -/
def readTurn (s : State) : Bool := s.host.txn == .reading && !s.host.shifting

/-- The word being shifted out is over after this period (log 14). -/
def wordShifted (s : State) : State := s.setHost { s.host with shifting := false }

/-- What the part does when no command waits (log 3). -/
def idle (s : State) : State :=
  match nextDue s with
  | some d => takeDue s d
  | none => if readTurn s then takeReadWord s else clockPeriod (wordShifted s)

end Sys2Proof.Machine
end

