-- ==== Sys2Proof/Machine/EngineEvents.lean ====
section
/-! DEFINITION. The meanings of the engine's events: the named cases of a rise, a condition or the end of a count (chapter 5; log 2, 20). -/

namespace Sys2Proof.Machine

/-- A rise of SBCK in the case that p describes, read once the Responder's level is settled (log 2, 8). -/
def riseCase (p : State → Bool) (s : State) : State :=
  if canRise (responderCountEnd s) && p (responderCountEnd s) then riseEvent (responderCountEnd s) else s

/-- The engine waits for a rise of SBCK. -/
def engineWaits (s : State) : Bool := s.engine.phase == .waiting

/-- ENGINE_START (R79). -/
def execEngineStart (s : State) : Answer := .next (engineStartEvent s)

/-- The rise takes a bit that loses arbitration (R81). -/
def lossAtRise (s : State) : Bool := engineWaits s && losesArbitration s.engine s.line.sbdt

/-- ARB_LOST (R81). -/
def execArbLost (s : State) : Answer := .next (riseCase lossAtRise s)

/-- The rise takes bit 20 without a loss (R82). -/
def winAtRise (s : State) : Bool :=
  engineWaits s && s.engine.st == .arbitrating && engineBits s == 19 && !mismatch s.engine s.line.sbdt

/-- ARB_WON (R82). -/
def execArbWon (s : State) : Answer := .next (riseCase winAtRise s)

/-- The rise takes the last bit of a frame that ends after n + 1 bits, in this engine state. -/
def lastBitAtRise (st : EngineState) (n : Nat) (s : State) : Bool :=
  engineWaits s && s.engine.st == st && engineBits s == n

/-- The high phase of bit n runs, in this engine state. -/
def bitRuns (st : EngineState) (n : Nat) (s : State) : Bool :=
  s.engine.phase == .high && s.engine.st == st && engineBits s == n

/-- The end of a high phase of bit n, in this engine state. -/
def endCase (st : EngineState) (n : Nat) (s : State) : State := if bitRuns st n s then fallEvent s else s

/-- ENGINE_CLAIM (R86): the rise of bit 37 where it has not come, and the end of its high phase for a frame that ends there (R90; log 20). -/
def execEngineClaim (s : State) : Answer := .next (endCase .claim 37 (riseCase (lastBitAtRise .claim 36) s))

/-- ENGINE_RESPONSE_SLOT (R87, R89): the rise of the response slot where it has not come, and the end of its high phase (R90; log 20). -/
def execEngineResponseSlot (s : State) : Answer :=
  .next (endCase .response (engineLast s) (riseCase (lastBitAtRise .response (engineLast s - 1)) s))

/-- The rise takes a bit that is a bus fault, or finds that the Restart cannot be produced (R83, R95). -/
def faultAtRise (s : State) : Bool :=
  engineWaits s &&
    ((mismatch s.engine s.line.sbdt && !losesArbitration s.engine s.line.sbdt) ||
      (s.engine.st == .linking && !restartReady s.engine s.line.sbdt))

/-- BUS_FAULT (R83, R84, R95). -/
def execBusFault (s : State) : Answer :=
  if canRise (responderCountEnd s) && faultAtRise (responderCountEnd s) then .next (riseEvent (responderCountEnd s))
  else if conditionFaults s then .next (if bothHigh s then startSeen s else stopEvent s)
  else .next s

/-- The engine's Restart, with SBDT not yet pulled low (R7, R95). -/
def restartHalf (s : State) : State :=
  if s.engine.st = .linking ∧ s.engine.phase = .condFirst then engineCondHalf s else s

/-- The end of the Restart's high phase (R95). -/
def restartEnds (s : State) : State :=
  if s.engine.st = .linking ∧ s.engine.phase = .condSecond then fallEvent s else s

/-- RESTART (R95). -/
def execRestart (s : State) : Answer := .next (restartEnds (restartHalf s))

/-- STOP (R97). -/
def execStop (s : State) : Answer := .next (if engineStopDone s then stopEvent s else s)

/-- RELEASED (R97): SBDT still reads low at the end of the count. -/
def execReleased (s : State) : Answer := .next (if engineStopDone s && !s.line.sbdt then engineCountEnd s else s)

end Sys2Proof.Machine
end

