-- ==== Sys2Proof/WellFormed.lean ====
section
/-! DEFINITION. Which operands make a command the row's own: BAD_COMMAND carries an unlisted code, REGISTER_WRITE an address that no other row writes. -/

namespace Sys2Proof

/-- The command codes of the table of R189. -/
def listedCodes : List (BitVec 8) :=
  [0x01, 0x02, 0x03, 0x04, 0x10, 0x11, 0x12, 0x20, 0x21, 0x22, 0x23, 0x24, 0x30, 0x31, 0x32, 0x3F]

/-- The words whose writes are rows of their own: the configuration and limit words, the command word, the events word and the enables word (R188). -/
def ownRowWords : List (BitVec 9) := [0x001, 0x002, 0x003, 0x004, 0x006, 0x007]

/-- A command as its row means it. -/
def Instr.wellFormed : Instr → Bool
  | .badCommand code => !listedCodes.contains code
  | .registerWrite addr _ => !ownRowWords.contains addr
  | _ => true

end Sys2Proof
end

