-- ==== Sys2Proof/Machine/HostCommands.lean ====
section
/-! DEFINITION. The meanings of the host's commands: each is one whole write of the command word (R189). -/

namespace Sys2Proof.Machine

/-- SUBMIT (R34). -/
def execSubmit (s : State) : Answer := .next (hostCommand submitCommand s)

/-- CANCEL (R121). -/
def execCancel (arg : BitVec 16) (s : State) : Answer := .next (hostCommand (cancelCommand arg) s)

/-- POP_COMPLETION (R119). -/
def execPopCompletion (s : State) : Answer := .next (hostCommand popCompletionCommand s)

/-- POP_NOTIFY (R165). -/
def execPopNotify (s : State) : Answer := .next (hostCommand popNotifyCommand s)

/-- NODE_WRITE (R73). -/
def execNodeWrite (s : State) : Answer := .next (hostCommand nodeWriteCommand s)

/-- NODE_REMOVE (R75). -/
def execNodeRemove (arg : BitVec 16) (s : State) : Answer := .next (hostCommand (nodeRemoveCommand arg) s)

/-- NODE_RESUME (R76). -/
def execNodeResume (arg : BitVec 16) (s : State) : Answer := .next (hostCommand (nodeResumeCommand arg) s)

/-- WINDOW_WRITE (R127). -/
def execWindowWrite (arg : BitVec 16) (s : State) : Answer := .next (hostCommand (windowWriteCommand arg) s)

/-- WINDOW_ENABLE (R128). -/
def execWindowEnable (arg : BitVec 16) (s : State) : Answer := .next (hostCommand (windowEnableCommand arg) s)

/-- WINDOW_DISABLE (R129). -/
def execWindowDisable (arg : BitVec 16) (s : State) : Answer := .next (hostCommand (windowDisableCommand arg) s)

/-- HOLD_WINDOW (R151). -/
def execHoldWindow (arg : BitVec 16) (s : State) : Answer := .next (hostCommand (holdWindowCommand arg) s)

/-- RELEASE_WINDOW (R153). -/
def execReleaseWindow (arg : BitVec 16) (s : State) : Answer := .next (hostCommand (releaseWindowCommand arg) s)

/-- PORT_ENABLE (R173). -/
def execPortEnable (s : State) : Answer := .next (hostCommand portEnable s)

/-- PORT_DISABLE (R174). -/
def execPortDisable (s : State) : Answer := .next (hostCommand portDisable s)

/-- RECOVER (R178). -/
def execRecover (s : State) : Answer := .next (hostCommand recoverCommand s)

/-- SOFT_RESET (R181). -/
def execSoftReset (s : State) : Answer := .next (hostCommand softResetCommand s)

/-- BAD_COMMAND (R189). With a code that the table of R189 lists the event cannot occur, and the part stays as it is, counter and pointer included (log 1, 25). -/
def execBadCommand (code : BitVec 8) (s : State) : Answer :=
  if listedCodes.contains code then .next s else .next (hostCommand badCommandReply s)

end Sys2Proof.Machine
end

