-- ==== Sys2Proof/Machine/LineEvents.lean ====
section
/-! DEFINITION. The meanings of the line events and of the Line Monitor's (R2 to R5, R18 to R22). -/

namespace Sys2Proof.Machine

/-- SBCK_RISE (R5): before the Responder's 10 periods have passed, or after (R2; log 8). -/
def execSbckRise (early : Bool) (s : State) : Answer := .next (if early then riseEvent s else settledRise s)

/-- SBCK_FALL (R4). -/
def execSbckFall (s : State) : Answer := .next (fallEvent s)

/-- SBDT_CHANGE (R21). -/
def execSbdtChange (s : State) : Answer := .next (dataEvent s)

/-- BUS_START (R5). -/
def execBusStart (s : State) : Answer := .next (startEvent s)

/-- BUS_STOP (R5). -/
def execBusStop (s : State) : Answer := .next (stopEvent s)

/-- PHASE_COUNT_END (R3). -/
def execPhaseCountEnd (count : PhaseCount) (s : State) : Answer :=
  match count with
  | .controller => .next (controllerCountEnd s)
  | .responder => .next (responderCountEnd s)

/-- LINE_QUIET (R19). -/
def execLineQuiet (s : State) : Answer := .next (quietEvent s)

/-- A QUIET line reads low: the fall of that line, which every follower takes (R18, R5; log 2). -/
def lineActive (line : BusLine) (s : State) : State :=
  if s.line.state = .quiet then
    match line with
    | .sbck => fallEvent s
    | .sbdt => startEvent s
  else s

/-- LINE_ACTIVE (R18). -/
def execLineActive (line : BusLine) (s : State) : Answer := .next (lineActive line s)

/-- LINE_STUCK (R21). -/
def execLineStuck (s : State) : Answer := .next (stuckEvent s)

end Sys2Proof.Machine
end

