-- ==== Sys2Proof/Machine/RecoveryEvents.lean ====
section
/-! DEFINITION. The meanings of the recovery sequence's events (R179, R180; log 20). -/

namespace Sys2Proof.Machine

/-- A count of the sequence runs out, in this phase of it. -/
def recoveryEnds (p : RecoveryPhase) (s : State) : State := if s.port.recovery = p then recoveryCountEnd s else s

/-- SBCK rises, in this phase of the sequence. -/
def recoveryRises (p : RecoveryPhase) (s : State) : State := if s.port.recovery = p then settledRise s else s

/-- RECOVERY_PULSE (R179): what is left of the pulse, to its end. -/
def execRecoveryPulse (s : State) : Answer :=
  .next (recoveryEnds .pulseHigh (recoveryRises .pulseRise (recoveryEnds .pulseLow s)))

/-- The Stop phase up to the release of SBDT (R179). -/
def recoveryStopLeft (s : State) : State :=
  recoveryEnds .stopHalf (recoveryRises .stopRise (recoveryEnds .stopData (recoveryEnds .stopLow s)))

/-- RECOVERY_DONE (R180): what is left of the Stop phase, to the Stop. -/
def execRecoveryDone (s : State) : Answer :=
  .next (if (recoveryStopLeft s).port.recovery = .stopEnd then stopEvent (recoveryStopLeft s) else s)

/-- The sequence failed: what is left of the phase, to a line that did not rise in its time or to the last pulse with SBDT low (R179). -/
def recoveryFails (s : State) : State :=
  match s.port.recovery with
  | .none => s
  | .pulseLow => recoveryCountEnd (recoveryCountEnd s)
  | .pulseHigh => if !s.port.taken && decide (Config.maxPulses ≤ s.port.pulses) then recoveryCountEnd s else s
  | .stopLow => recoveryCountEnd (recoveryCountEnd (recoveryCountEnd s))
  | .stopData | .stopHalf => recoveryCountEnd (recoveryCountEnd s)
  | .pulseRise | .stopRise | .stopEnd => recoveryCountEnd s

/-- RECOVERY_FAILED (R180). -/
def execRecoveryFailed (s : State) : Answer := .next (recoveryFails s)

end Sys2Proof.Machine
end

