-- ==== Sys2Proof/Machine/ResponderEvents.lean ====
section
/-! DEFINITION. The meanings of the Responder's events: the named cases of a rise or of the end of its count (chapter 7; log 2). -/

namespace Sys2Proof.Machine

/-- The rise takes bit n + 1 of the frame at the Responder, in this state. -/
def responderAt (st : ResponderState) (n : Nat) (s : State) : Bool :=
  s.responder.st == st && s.responder.pos == .within n

/-- The rise takes bit 35 of a frame that the engine does not drive (R133). -/
def decisionAtRise (s : State) : Bool := responderAt .decoding 34 s && !engineDriving s

/-- CLAIM_DECISION (R136). -/
def execClaimDecision (s : State) : Answer := .next (riseCase decisionAtRise s)

/-- RESPONDER_CLAIM (R137). -/
def execResponderClaim (s : State) : Answer := .next (riseCase (responderAt .claiming 36) s)

/-- The rise takes the response slot of a READ that the Responder answered (R140). -/
def readSlotAtRise (s : State) : Bool :=
  responderAt .confirming (45 + 8 * frameLen s) s && frameKind s == some .read

/-- READ_RESPONSE_SLOT (R140). -/
def execReadResponseSlot (s : State) : Answer := .next (riseCase readSlotAtRise s)

/-- The ACCEPT of a verified WRITE is about to be driven, in the low phase of the response slot (R142). -/
def commitDue (s : State) : Bool := s.responder.delay.isSome && s.responder.commits && !s.line.sbck

/-- COMMIT (R142). -/
def execCommit (s : State) : Answer := .next (if commitDue s then responderCountEnd s else s)

/-- The rise takes the last check bit of a WRITE whose check fails (R143). -/
def checkFailsAtRise (s : State) : Bool :=
  responderAt .receiving (44 + 8 * frameLen s) s &&
    shiftIn s.responder.check s.line.sbdt != s.responder.crc

/-- WRITE_CHECK_FAIL (R143). -/
def execWriteCheckFail (s : State) : Answer := .next (riseCase checkFailsAtRise s)

end Sys2Proof.Machine
end

