-- ==== Sys2Proof/Machine/TimeEvents.lean ====
section
/-! DEFINITION. The meanings of RST#, the ms tick and the expiries (R57, R67, R92, R159, R168, R183). -/

namespace Sys2Proof.Machine

/-- RST (R183). -/
def execRst (csHigh sbckHigh sbdtHigh : Bool) (s : State) : Answer := .next (hardReset csHigh sbckHigh sbdtHigh s)

/-- MS_TICK (R168). -/
def execMsTick (s : State) : Answer := .next (msTick s)

/-- DEADLINE_EXPIRY (R57, R58). -/
def execDeadlineExpiry (slot : Fin 32) (s : State) : Answer := .next (deadlineExpires slot s)

/-- BACKOFF_EXPIRY (R67). -/
def execBackoffExpiry (entry : Fin 16) (s : State) : Answer := .next (backoffExpires entry s)

/-- WAIT_TIMEOUT (R92). -/
def execWaitTimeout (s : State) : Answer := .next (waitTimeoutEvent s)

/-- STALL_EXPIRY (R159). -/
def execStallExpiry (s : State) : Answer := .next (stallExpires s)

end Sys2Proof.Machine
end

