-- ==== Sys2Proof/Machine/WordWrites.lean ====
section
/-! DEFINITION. The meanings of the host's word writes and of the SPI events (R42, R170, R171, R184 to R188, R191, R192). -/

namespace Sys2Proof.Machine

/-- PORT_CONFIGURATION_WRITE (R170). -/
def execPortConfigurationWrite (w : Word) (s : State) : Answer := .next (wordWrite 0x001 (writePortConfiguration w) s)

/-- TIMING_CONFIGURATION_WRITE (R171). -/
def execTimingConfigurationWrite (w : Word) (s : State) : Answer := .next (wordWrite 0x002 (writeTiming w) s)

/-- QUEUE_LIMITS_WRITE (R42). -/
def execQueueLimitsWrite (w : Word) (s : State) : Answer := .next (wordWrite 0x003 (writeQueueLimits w) s)

/-- EVENTS_WRITE (R191). -/
def execEventsWrite (w : Word) (s : State) : Answer := .next (wordWrite 0x006 (writeEvents w) s)

/-- EVENT_ENABLES_WRITE (R192). -/
def execEventEnablesWrite (w : Word) (s : State) : Answer := .next (wordWrite 0x007 (writeEnables w) s)

/-- REGISTER_WRITE (R188): at the address of another row it is that row's write (log 25). -/
def execRegisterWrite (addr : BitVec 9) (w : Word) (s : State) : Answer :=
  .next (wordWrite addr (wordEffect addr.toNat w) s)

/-- CS_FALL (R184). -/
def execCsFall (s : State) : Answer := .next (openTransaction s)

/-- SPI_HEADER (R184, R185). -/
def execSpiHeader (header : BitVec 16) (s : State) : Answer := .next (takeHeader header s)

/-- SPI_TRANSACTION_END (R184). -/
def execSpiTransactionEnd (s : State) : Answer := .next (closeTransaction s)

end Sys2Proof.Machine
end

