-- ==== Sys2Proof/Machine/Dispatch.lean ====
section
/-! DEFINITION. The meaning of each command: one arm per row of spec/opcode_table.json. -/

namespace Sys2Proof.Machine

/-- The effect of a command on everything but the queue. -/
def exec (i : Instr) (s : State) : Host.Outcome State Fault Refusal :=
  match i with
  | .submit => Sys2Proof.Machine.execSubmit s
  | .cancel arg => Sys2Proof.Machine.execCancel arg s
  | .popCompletion => Sys2Proof.Machine.execPopCompletion s
  | .popNotify => Sys2Proof.Machine.execPopNotify s
  | .nodeWrite => Sys2Proof.Machine.execNodeWrite s
  | .nodeRemove arg => Sys2Proof.Machine.execNodeRemove arg s
  | .nodeResume arg => Sys2Proof.Machine.execNodeResume arg s
  | .windowWrite arg => Sys2Proof.Machine.execWindowWrite arg s
  | .windowEnable arg => Sys2Proof.Machine.execWindowEnable arg s
  | .windowDisable arg => Sys2Proof.Machine.execWindowDisable arg s
  | .holdWindow arg => Sys2Proof.Machine.execHoldWindow arg s
  | .releaseWindow arg => Sys2Proof.Machine.execReleaseWindow arg s
  | .portEnable => Sys2Proof.Machine.execPortEnable s
  | .portDisable => Sys2Proof.Machine.execPortDisable s
  | .recover => Sys2Proof.Machine.execRecover s
  | .softReset => Sys2Proof.Machine.execSoftReset s
  | .badCommand code => Sys2Proof.Machine.execBadCommand code s
  | .portConfigurationWrite w => Sys2Proof.Machine.execPortConfigurationWrite w s
  | .timingConfigurationWrite w => Sys2Proof.Machine.execTimingConfigurationWrite w s
  | .queueLimitsWrite w => Sys2Proof.Machine.execQueueLimitsWrite w s
  | .eventsWrite w => Sys2Proof.Machine.execEventsWrite w s
  | .eventEnablesWrite w => Sys2Proof.Machine.execEventEnablesWrite w s
  | .registerWrite addr w => Sys2Proof.Machine.execRegisterWrite addr w s
  | .spiHeader header => Sys2Proof.Machine.execSpiHeader header s
  | .spiTransactionEnd => Sys2Proof.Machine.execSpiTransactionEnd s
  | .rst csHigh sbckHigh sbdtHigh => Sys2Proof.Machine.execRst csHigh sbckHigh sbdtHigh s
  | .msTick => Sys2Proof.Machine.execMsTick s
  | .deadlineExpiry slot => Sys2Proof.Machine.execDeadlineExpiry slot s
  | .backoffExpiry entry => Sys2Proof.Machine.execBackoffExpiry entry s
  | .waitTimeout => Sys2Proof.Machine.execWaitTimeout s
  | .stallExpiry => Sys2Proof.Machine.execStallExpiry s
  | .lineQuiet => Sys2Proof.Machine.execLineQuiet s
  | .lineActive line => Sys2Proof.Machine.execLineActive line s
  | .lineStuck => Sys2Proof.Machine.execLineStuck s
  | .engineStart => Sys2Proof.Machine.execEngineStart s
  | .arbLost => Sys2Proof.Machine.execArbLost s
  | .arbWon => Sys2Proof.Machine.execArbWon s
  | .engineClaim => Sys2Proof.Machine.execEngineClaim s
  | .engineResponseSlot => Sys2Proof.Machine.execEngineResponseSlot s
  | .busFault => Sys2Proof.Machine.execBusFault s
  | .restart => Sys2Proof.Machine.execRestart s
  | .stop => Sys2Proof.Machine.execStop s
  | .released => Sys2Proof.Machine.execReleased s
  | .busStart => Sys2Proof.Machine.execBusStart s
  | .busStop => Sys2Proof.Machine.execBusStop s
  | .claimDecision => Sys2Proof.Machine.execClaimDecision s
  | .responderClaim => Sys2Proof.Machine.execResponderClaim s
  | .readResponseSlot => Sys2Proof.Machine.execReadResponseSlot s
  | .commit => Sys2Proof.Machine.execCommit s
  | .writeCheckFail => Sys2Proof.Machine.execWriteCheckFail s
  | .recoveryPulse => Sys2Proof.Machine.execRecoveryPulse s
  | .recoveryDone => Sys2Proof.Machine.execRecoveryDone s
  | .recoveryFailed => Sys2Proof.Machine.execRecoveryFailed s
  | .sbckRise early => Sys2Proof.Machine.execSbckRise early s
  | .sbckFall => Sys2Proof.Machine.execSbckFall s
  | .phaseCountEnd count => Sys2Proof.Machine.execPhaseCountEnd count s
  | .sbdtChange => Sys2Proof.Machine.execSbdtChange s
  | .csFall => Sys2Proof.Machine.execCsFall s

end Sys2Proof.Machine
end

