-- ==== Sys2Proof/Safety.lean ====
section
/-! DEFINITION. What holds of the part between steps: the invariants that the spec states, and the words in which the statements speak of a step. -/

namespace Sys2Proof.Machine

/-! ### Words of the statements -/

/-- A write transaction is open and its pointer stands at a word (R186). -/
def WriteOpen (a : BitVec 9) (s : State) : Prop := s.host.txn = .writing ∧ s.host.pointer = a

/-- The Host Port after a command with this result (R186, R189, R190). -/
def posted (c : ResultCode) (v : Byte) (h : HostPort) : HostPort :=
  { h with pointer := h.pointer + 1, counter := h.counter + 1, last := some (c, v) }

/-- The Host Port after any other whole word write (R186). -/
def wordTaken (h : HostPort) : HostPort := { h with pointer := h.pointer + 1 }

/-- A slot is WAITING or ACTIVE: its request is listed in a dispatch queue (R40). -/
def Slot.queued (x : Slot) : Bool := x.state == .waiting || x.state == .active

/-- Every byte of page memory reads as before (R147). -/
def SamePage (s t : State) : Prop := ∀ a, t.page.read a = s.page.read a

/-- What the request path leaves alone: the Host Port, the edit areas, the configuration, the windows, the Responder, page memory, the Hold and Notify Unit, and the command queue. -/
def KeepsRemoteSide (s t : State) : Prop :=
  t.pending = s.pending ∧ t.host = s.host ∧ t.edit = s.edit ∧ t.cfg = s.cfg ∧ t.windows = s.windows ∧
    t.responder = s.responder ∧ t.page = s.page ∧ t.hold = s.hold

/-- What the remote access path leaves alone: the Host Port, the edit areas, the configuration, the requests, the nodes, the engine, the port and the command queue. -/
def KeepsRequestSide (s t : State) : Prop :=
  t.pending = s.pending ∧ t.host = s.host ∧ t.edit = s.edit ∧ t.cfg = s.cfg ∧ t.store = s.store ∧
    t.sched = s.sched ∧ t.nodes = s.nodes ∧ t.engine = s.engine ∧ t.completions = s.completions ∧ t.port = s.port

/-- Two words of one frozen group (R187). -/
def SameGroup (a b : Nat) : Prop :=
  (0x060 ≤ a ∧ a ≤ 0x071 ∧ 0x060 ≤ b ∧ b ≤ 0x071) ∨ ((a = 0x009 ∨ a = 0x00A) ∧ (b = 0x009 ∨ b = 0x00A)) ∨
    (0x020 ≤ a ∧ a ≤ 0x03F ∧ b / 2 = a / 2) ∨ (0x080 ≤ a ∧ a ≤ 0x08F ∧ b / 2 = a / 2)

/-- The frame at place i of a request fails a check that every frame before it passes (R35). -/
def FirstBad (p : RawFrame → Prop) (l : List RawFrame) (i : Nat) : Prop :=
  (∃ r, l[i]? = some r ∧ ¬ p r) ∧ ∀ j r, j < i → l[j]? = some r → p r

/-- The request word of the staging area (R31). -/
def staged (s : State) : RequestWord := requestWord (stagingWord s.edit 0)

/-- The frames of the staged request (R31). -/
def stagedFrames (s : State) : List RawFrame := rawFrames s.edit (staged s).count

/-- A frame's length fits its kind: 0 for PROBE, 1–32 for WRITE and READ (R34). -/
def LengthOk (r : RawFrame) : Prop :=
  (r.kind = some .probe ∧ r.length = 0) ∨ (r.kind ≠ some .probe ∧ 1 ≤ r.length ∧ r.length ≤ 32)

/-- A node address (R10). -/
def AddressOk (r : RawFrame) : Prop := r.dest ≠ 0 ∧ r.dest ≠ 255

/-- The first checks of SUBMIT pass, as many as n says, in the order of R34. -/
def PassesChecks (s : State) (n : Nat) : Prop :=
  (1 ≤ n → (staged s).queue ≠ none) ∧
    (2 ≤ n → 1 ≤ (staged s).count ∧ (staged s).count ≤ 4) ∧
    (3 ≤ n → ∀ r ∈ stagedFrames s, r.kind ≠ none) ∧
    (4 ≤ n → ∀ r ∈ stagedFrames s, LengthOk r) ∧
    (5 ≤ n → ((stagedFrames s).map RawFrame.length).sum ≤ 64) ∧
    (6 ≤ n → ∀ r ∈ stagedFrames s, AddressOk r) ∧
    (7 ≤ n → ∀ r ∈ stagedFrames s, nodeState r.dest s ≠ none) ∧
    (8 ≤ n → ∀ r ∈ stagedFrames s, nodeState r.dest s ≠ some .suspended) ∧
    (9 ≤ n → ∀ q, (staged s).queue = some q → (queueList s.sched q).length < queueLimit s.cfg q) ∧
    (10 ≤ n → ∃ k, (slotOf s k).state = .free)

/-- A request completes (R111 to R113): its slot is DONE and leaves its queue, its timer is OFF, the refs of each node that it names falls by one, its record joins the completion queue, COMPLETION is set, and nothing else changes. -/
def CompletesAs (k : Fin 32) (o : RequestOutcome) (failed : Bool) (s t : State) : Prop :=
  let x := slotOf s k
  let n := if x.state = .waiting then 0 else x.framesDone
  let index := if failed then some n else none
  let node := if failed then (x.chain[n]?).map Frame.dest else none
  slotOf t k = { x with state := .done, framesDone := n, outcome := some o, failIndex := index, failNode := node } ∧
    (∀ j, j ≠ k → slotOf t j = slotOf s j) ∧ t.store.tagCounter = s.store.tagCounter ∧
    timerOf t k = .off ∧ (∀ j, j ≠ k → timerOf t j = timerOf s j) ∧
    (∀ q, queueList t.sched q = (queueList s.sched q).filter (· != k)) ∧
    t.sched.passStd = s.sched.passStd ∧ t.sched.passBkg = s.sched.passBkg ∧
    (∀ i, tget t.nodes i =
      (tget s.nodes i).map fun e => if names x.chain e.address then { e with refs := e.refs - 1 } else e) ∧
    t.completions = s.completions ++
      [{ slot := k, tag := x.tag.getD 0, outcome := o, framesDone := n, failIndex := index, failNode := node,
         attempts := x.attempts, arbLosses := x.arbLosses, dataLength := (x.chain.map Frame.length).sum }] ∧
    t.events.flags = s.events.flags ||| 0x001 ∧ t.events.enables = s.events.enables ∧ t.engine = s.engine ∧
    t.line = s.line ∧ t.port = s.port ∧ KeepsRemoteSide s t

/-- A request of a queue may be chosen now, given the older requests of its queue (R44, R45). -/
def EligibleAfter (s : State) (older : List (Fin 32)) (k : Fin 32) : Prop :=
  (slotOf s k).state = .waiting ∧ (slotOf s k).cancelPending = false ∧
    (∀ f ∈ (slotOf s k).chain, nodeState f.dest s = some .available) ∧
    ∀ o ∈ older, (slotOf s o).state = .waiting ∨ (slotOf s o).state = .active →
      ∀ f ∈ (slotOf s o).chain, ∀ g ∈ (slotOf s k).chain, f.dest ≠ g.dest

/-- A request is the one nearest the head of a list among those that may be chosen (R50). -/
def OldestEligible (s : State) (l : List (Fin 32)) (k : Fin 32) : Prop :=
  ∃ older younger, l = older ++ k :: younger ∧ EligibleAfter s older k ∧
    ∀ a x b, older = a ++ x :: b → ¬ EligibleAfter s a x

/-- The choice falls on this request of this queue, by the first step of R50 that applies. -/
def ChoiceFallsOn (s : State) (q : QueueName) (k : Fin 32) : Prop :=
  let background := s.cfg.passLimit ≠ 0 ∧ s.cfg.passLimit.toNat ≤ s.sched.passBkg ∧ candidate s .background ≠ none
  let standard := s.cfg.passLimit ≠ 0 ∧ s.cfg.passLimit.toNat ≤ s.sched.passStd ∧ candidate s .standard ≠ none
  candidate s q = some k ∧
    match q with
    | .expedite => ¬ background ∧ ¬ standard
    | .standard => ¬ background ∧ (standard ∨ candidate s .expedite = none)
    | .background => background ∨ (¬ standard ∧ candidate s .expedite = none ∧ candidate s .standard = none)

/-- A chain names an enabled window of the part (R54). -/
def NamesOwnWindow (s : State) (c : List Frame) : Prop :=
  ∃ f ∈ c, ∃ i, (windowOf s i).enabled = true ∧ (windowOf s i).node = f.dest

/-- The four conditions of a choice, but for an eligible request (R47). -/
def MayChoose (s : State) : Prop := s.engine.st = .idle ∧ s.port.state = .running ∧ s.line.state = .quiet

/-- A rise of SBCK can come once the Responder's own change of SBDT is settled, with SBDT at this level, while no recovery runs and no choice is near (R2, R5). -/
def RiseComes (u : State) (b : Bool) : Prop :=
  u.line.sbck = false ∧ u.engine.driveSbck = false ∧ u.responder.driveSbck = false ∧ u.port.driveSbck = false ∧
    u.line.sbdt = b ∧ u.port.recovery = .none ∧ u.line.state ≠ .quiet

/-- The part with SBCK read high, the engine's wait over (R3, R21, R91). -/
def risen (u : State) : State :=
  { u with
    line := { u.line with sbck := true, stuckMs := 0, stuckDue := false }
    engine := { u.engine with waitTimer := none } }

/-- The engine runs frame f of the chain of slot k (R78). -/
def Runs (s : State) (k : Fin 32) (f : Frame) : Prop :=
  s.engine.held = some k ∧ (slotOf s k).chain[s.engine.frameIndex]? = some f

/-! ### Requests (R23, R40, R47, R72, R78) -/

/-- Every WAITING or ACTIVE slot is listed in its own queue, no other slot is listed, and none twice (R40). -/
def QueuesExact (s : State) : Prop :=
  (∀ q k, k ∈ queueList s.sched q ↔ (slotOf s k).queued = true ∧ (slotOf s k).queue = some q) ∧
    (∀ k, (slotOf s k).queued = true → (slotOf s k).queue ≠ none ∧ (slotOf s k).chain ≠ []) ∧
    s.sched.exp.Nodup ∧ s.sched.std.Nodup ∧ s.sched.bkg.Nodup

/-- One record for each DONE slot, and no other (R23, R114). -/
def RecordsExact (s : State) : Prop :=
  (s.completions.map CompletionRecord.slot).Nodup ∧
    ∀ k, k ∈ s.completions.map CompletionRecord.slot ↔ (slotOf s k).state = .done

/-- The ACTIVE slot is the slot that the engine holds, in an in-frame state and at a frame of its chain; an IDLE engine has its IDLE values (R23, R47, R78). -/
def EngineExact (s : State) : Prop :=
  (∀ k, (slotOf s k).state = .active ↔ s.engine.held = some k) ∧
    (∀ k, s.engine.held = some k →
      s.engine.st.inFrame = true ∧ s.engine.frameIndex < (slotOf s k).chain.length) ∧
    (s.engine.st = .idle → s.engine = s.engine.idled) ∧
    (s.engine.phase = .stopWait ∨ s.engine.phase = .timeoutWait ∨ s.engine.phase = .timeoutHigh →
      s.engine.st = .stopping) ∧
    (s.engine.phase = .condFirst → s.engine.st = .linking ∨ s.engine.st = .stopping)

/-- Slots, queues, records and engine agree. -/
def RequestsConsistent (s : State) : Prop := QueuesExact s ∧ RecordsExact s ∧ EngineExact s

/-- Every node named by a WAITING or ACTIVE slot has an entry, and each entry's refs is the number of those slots that name it (R72). -/
def RefsExact (s : State) : Prop :=
  (∀ k, (slotOf s k).queued = true → ∀ f ∈ (slotOf s k).chain, (nodeAt f.dest s).isSome = true) ∧
    ∀ i n, tget s.nodes i = some n → n.refs = tcount (fun x => x.queued && names x.chain n.address) s.store.slots

/-- No two live slots hold the same tag, and no slot holds tag 0 (R29). -/
def TagsDistinct (s : State) : Prop :=
  s.store.tagCounter ≠ 0 ∧
    ∀ k, (slotOf s k).live = true →
      ∃ t, (slotOf s k).tag = some t ∧ t ≠ 0 ∧ ∀ j, (slotOf s j).live = true → (slotOf s j).tag = some t → j = k

/-- No WAITING or ACTIVE slot names a SUSPENDED node (R70). -/
def SuspendedUnnamed (s : State) : Prop :=
  ∀ k, (slotOf s k).queued = true → ∀ f ∈ (slotOf s k).chain, nodeState f.dest s ≠ some .suspended

/-! ### Nodes (R61, R72) -/

/-- No two entries hold the same address, and none holds 0 or 255 (R61, R72). -/
def NodesDistinct (s : State) : Prop :=
  (∀ i n, tget s.nodes i = some n → n.address ≠ 0 ∧ n.address ≠ 255) ∧
    ∀ i j n m, tget s.nodes i = some n → tget s.nodes j = some m → n.address = m.address → i = j

/-! ### Windows, holds and notify records (R128, R150, R162) -/

/-- No two enabled windows have the same node address, and each has settings that WINDOW_ENABLE accepts (R128). -/
def WindowsDistinct (s : State) : Prop :=
  (∀ i, (windowOf s i).enabled = true → windowSettingsValid (windowOf s i) = true) ∧
    ∀ i j, (windowOf s i).enabled = true → (windowOf s j).enabled = true →
      (windowOf s i).node = (windowOf s j).node → i = j

/-- A window is PENDING only while it is in-frame, and a HELD window is never in-frame (R150). -/
def HoldsLegal (s : State) : Prop :=
  ∀ i, ((windowOf s i).hold = .pending → (windowOf s i).inFrame = true) ∧
    ((windowOf s i).hold = .held → (windowOf s i).inFrame = false)

/-- A window is in-frame only as the window of the frame that the Responder answers, past PROCEED and before the frame's end, so at most one window is (R146); a stall is of that frame's window (R157). -/
def FrameHeld (s : State) : Prop :=
  (∀ i, (windowOf s i).inFrame = true →
    s.responder.window = some i ∧ (∃ n, s.responder.pos = .within n) ∧
      ((s.responder.st = .claiming ∧ s.responder.code = .proceed) ∨ s.responder.st = .sending ∨
        s.responder.st = .receiving ∨ s.responder.st = .confirming)) ∧
    (s.responder.st = .stalling →
      s.hold.stallWindow = s.responder.window ∧ ∃ n, s.responder.pos = .within n)

/-- The number of notify records plus the number of reservations never exceeds 16 (R162). -/
def NotifyFits (s : State) : Prop := notifyLoad s.hold ≤ 16

/-! ### Page memory (R147) -/

/-- Page memory is in its canonical form. -/
def PageCanonical (s : State) : Prop := s.page.wf = true

/-! ### The port (R1, R131, R172) -/

/-- The engine is IDLE where the port is DISABLED, FAULT or RECOVERING, with its IDLE values, and not IDLE where it is STOPPING (R172, R175). -/
def PortHoldsEngine (s : State) : Prop :=
  (s.engine.st = .idle → s.engine = s.engine.idled) ∧
    (s.port.state = .disabled ∨ s.port.state = .fault ∨ s.port.state = .recovering → s.engine.st = .idle) ∧
    (s.port.state = .stopping → s.engine.st ≠ .idle)

/-- The Responder is OFF exactly where the port is not RUNNING, and then drives nothing (R131, R145, R172). -/
def PortHoldsResponder (s : State) : Prop :=
  (s.responder.st = .off ↔ s.port.state ≠ .running) ∧
    (s.responder.st = .off →
      s.responder.driveSbck = false ∧ s.responder.driveSbdt = false ∧ s.responder.delay = none ∧
        s.responder.release = none)

/-- The recovery sequence runs exactly in RECOVERING, and drives nothing elsewhere (R172, R180). -/
def PortHoldsRecovery (s : State) : Prop :=
  (s.port.recovery ≠ .none ↔ s.port.state = .recovering) ∧
    (s.port.recovery = .none → s.port.driveSbck = false ∧ s.port.driveSbdt = false)

/-- What the five port states mean to the blocks that read them (R172). -/
def PortConsistent (s : State) : Prop := PortHoldsEngine s ∧ PortHoldsResponder s ∧ PortHoldsRecovery s

end Sys2Proof.Machine
end

