-- ==== Sys2Proof/Certificates/Slice0/Obligations.lean ====
section
/-! DEFINITION. What is to be proved of the model, stated from the numbered rules of the spec. A rule in parentheses is one that a statement rests on; a log entry is a convention of the model. -/

section

open Sys2Proof Sys2Proof.Machine

/-! ### The step -/

/-- Taking the command at the front of the queue is executing it on the part with the rest of the queue. -/
def Obligations.StepTakesFrontCommand : Prop :=
  ∀ (c : Instr) (rest : List Instr) (s : State), s.pending = c :: rest → step s = exec c { s with pending := rest }

/-- Every command answers a next state in every state, whatever its operands, and leaves the queue alone: no command stops the part. That an event which cannot occur leaves the part as it is, and that no command of the table stops the part, is the model's choice and not a rule of the spec (log 1, 23). -/
def Obligations.EveryCommandCompletes : Prop :=
  ∀ (c : Instr) (s : State), ∃ t : State, exec c s = .next t ∧ t.pending = s.pending

/-- With no command waiting (the model's choice, log 3): a due expiry is taken (the due state is log 4); else the next word of an open read transaction (log 14); else one REFCLK period passes, and the time base counts it from 0 to 15,999 (R168). One REFCLK period at each count of the part in turn (log 3): the time base, whose last period is the ms tick (R168); the Responder's counts to a change of SBDT and to the release of SBCK (R2, R132, R158); the first period after a choice and the engine's counts (R2, R79); the recovery sequence's (R179); the quiet timer, which counts whole Tb while both lines are high, to 128 Tb at most (the model's, log 27), and makes the line QUIET (R19). -/
def Obligations.EmptyQueueStep : Prop :=
  (∀ s : State, s.pending = [] →
     (∀ d, nextDue s = some d → step s = .next (takeDue s d)) ∧
     (nextDue s = none → s.host.txn = .reading → s.host.shifting = false → step s = .next (takeReadWord s)) ∧
     (nextDue s = none → s.host.txn ≠ .reading ∨ s.host.shifting = true →
       ∃ t : State, step s = .next t ∧ t = clockPeriod { s with host := { s.host with shifting := false } } ∧
         t.pending = [] ∧ t.port.period = (if s.port.period + 1 < 16000 then s.port.period + 1 else 0) ∧
         t.host.shifting = false)) ∧
  (∀ s : State,
     clockPeriod s = quietPeriod (recoveryPeriod (enginePeriod (releasePeriod (delayPeriod (timeBasePeriod s))))) ∧
     (s.port.period + 1 < 16000 → timeBasePeriod s = { s with port := { s.port with period := s.port.period + 1 } }) ∧
     (16000 ≤ s.port.period + 1 → exec .msTick s = .next (timeBasePeriod s)) ∧
     (s.responder.delay = none → delayPeriod s = s) ∧
     (∀ n, s.responder.delay = some n →
       (1 < n → delayPeriod s = { s with responder := { s.responder with delay := some (n - 1) } }) ∧
       (n ≤ 1 → s.responder.release = none → exec (.phaseCountEnd .responder) s = .next (delayPeriod s))) ∧
     (s.responder.release = none → releasePeriod s = s) ∧
     (∀ n, s.responder.release = some n →
       (1 < n → releasePeriod s = { s with responder := { s.responder with release := some (n - 1) } }) ∧
       (n ≤ 1 → s.responder.delay = none → exec (.phaseCountEnd .responder) s = .next (releasePeriod s))) ∧
     (s.engine.phase = .startDue → exec .engineStart s = .next (enginePeriod s)) ∧
     (s.engine.phase = .none ∨ s.engine.phase = .waiting ∨ s.engine.phase = .timeoutWait → enginePeriod s = s) ∧
     (s.engine.phase ≠ .none → s.engine.phase ≠ .startDue → s.engine.phase ≠ .waiting → s.engine.phase ≠ .timeoutWait →
       (1 < s.engine.left → enginePeriod s = { s with engine := { s.engine with left := s.engine.left - 1 } }) ∧
       (s.engine.left ≤ 1 → s.port.recovery = .none →
         exec (.phaseCountEnd .controller) s = .next (enginePeriod s))) ∧
     (s.port.recovery = .none → recoveryPeriod s = s) ∧
     (s.port.recovery ≠ .none →
       (1 < s.port.left → recoveryPeriod s = { s with port := { s.port with left := s.port.left - 1 } }) ∧
       (s.port.left ≤ 1 → exec (.phaseCountEnd .controller) s = .next (recoveryPeriod s))) ∧
     (s.line.sbck = false ∨ s.line.sbdt = false ∨ s.line.state = .stuck → quietPeriod s = s) ∧
     (s.line.sbck = true → s.line.sbdt = true → s.line.state ≠ .stuck →
       let tb := min 1600 (max 40 s.cfg.bitDiv.toNat)
       let count := min 128 (s.line.quietTb + 1)
       (s.line.quietPart + 1 < tb →
         quietPeriod s = { s with line := { s.line with quietPart := s.line.quietPart + 1 } }) ∧
       (tb ≤ s.line.quietPart + 1 → s.line.state = .quiet ∨ count < 16 * 2 ^ s.cfg.quietSel.toNat →
         quietPeriod s = { s with line := { s.line with quietPart := 0, quietTb := count } }) ∧
       (tb ≤ s.line.quietPart + 1 → s.line.state = .active → 16 * 2 ^ s.cfg.quietSel.toNat ≤ count →
         let q := responderClose { s with line := { s.line with state := .quiet, quietPart := 0, quietTb := count } }
         quietPeriod s = choose (if q.engine.st = .released then engineToIdle q else q))))

/-! ### Resets -/

/-- RST# (log 6, 15, 22) puts every block at its reset values, whatever the state, where the lines read as they stand and a CS# already low opens no transaction (R183, R184); the values that the spec gives for reset (R24, R30, R42, R43, R62, R78, R115, R125, R131, R147, R167, R168, R170 to R172, R178, R183, R184, R190 to R192); the register window after RST# (R188, R190, R193, R194, section 10.8). -/
def Obligations.ResetRestoresEveryBlock : Prop :=
  (∀ (csHigh sbckHigh sbdtHigh : Bool) (s : State),
     exec (.rst csHigh sbckHigh sbdtHigh) s = .next
       { State.reset with
         pending := s.pending
         host := { State.reset.host with txn := if csHigh then .closed else .ignoring }
         line := { State.reset.line with sbck := sbckHigh, sbdt := sbdtHigh } }) ∧
  ((∀ k, slotOf State.reset k = Slot.free ∧ timerOf State.reset k = .off) ∧ State.reset.store.tagCounter = 1 ∧
     (∀ q, queueList State.reset.sched q = []) ∧ State.reset.sched.passStd = 0 ∧ State.reset.sched.passBkg = 0 ∧
     (∀ i, tget State.reset.nodes i = none) ∧
     State.reset.engine.st = .idle ∧ State.reset.engine.held = none ∧ State.reset.engine.frameIndex = 0 ∧
     State.reset.engine.pos = .between ∧ State.reset.engine.arb = .none ∧ State.reset.engine.waitLimit = 1 ∧
     State.reset.engine.waitTimer = none ∧ State.reset.engine.crc = 0xFF ∧
     (∀ j, bufferByte State.reset.engine.capture j = 0) ∧
     State.reset.completions = [] ∧
     (∀ i, (windowOf State.reset i).enabled = false ∧ (windowOf State.reset i).hold = .open ∧
       (windowOf State.reset i).inFrame = false) ∧
     State.reset.responder.st = .off ∧ State.reset.responder.pos = .between ∧
     (∀ j, bufferByte State.reset.responder.sendBuf j = 0 ∧ bufferByte State.reset.responder.intake j = 0) ∧
     (∀ a, State.reset.page.read a = 0) ∧
     State.reset.hold.stallTimer = none ∧ State.reset.hold.stallWindow = none ∧ State.reset.hold.queue = [] ∧
     State.reset.hold.reservation = false ∧ State.reset.hold.sequence = 0 ∧
     State.reset.line.state = .active ∧ State.reset.line.quietTb = 0 ∧ State.reset.line.stuckMs = 0 ∧
     State.reset.port.state = .disabled ∧ State.reset.port.pulses = 0 ∧ State.reset.port.period = 0 ∧
     State.reset.host.txn = .closed ∧ State.reset.host.pointer = 0 ∧ State.reset.host.counter = 0 ∧
     State.reset.host.last = none ∧ State.reset.events.flags = 0 ∧ State.reset.events.enables = 0 ∧
     State.reset.cfg.ownAddr = 0 ∧ State.reset.cfg.bitDiv = 160 ∧ State.reset.cfg.quietSel = 1 ∧
     State.reset.cfg.stuckLimit = 30 ∧ State.reset.cfg.passLimit = 8 ∧ State.reset.cfg.limitExp = 32 ∧
     State.reset.cfg.limitStd = 32 ∧ State.reset.cfg.limitBkg = 32 ∧
     ownSbck State.reset = false ∧ ownSbdt State.reset = false) ∧
  (∀ a : BitVec 9, readLive State.reset a =
     if a = 0x000 then 0x07160001
     else if a = 0x001 then 0x0010A000
     else if a = 0x002 then 0x0000081E
     else if a = 0x003 then 0x00202020
     else if a = 0x009 then 0x20000000
     else 0)

/-- SOFT_RESET in every port state: what it resets and what it keeps (R181, R182); its own count and OK stand in the result word (R189). The model's conventions: log 22. -/
def Obligations.SoftResetSplit : Prop :=
  ∀ s : State, WriteOpen 0x004 s →
    exec .softReset s = .next
      { s with
        host := posted .ok 0 s.host
        events := { s.events with flags := 0 }
        store := Store.reset
        sched := Sched.reset
        nodes := tmap
          (fun e => e.map fun n => { n with state := .available, failCount := 0, backoffLeft := 0, refs := 0 }) s.nodes
        engine := Engine.reset
        completions := []
        windows := tmap (fun w => { w with hold := .open, inFrame := false }) s.windows
        responder := Responder.reset
        hold := HoldUnit.reset
        line := { s.line with state := .active, quietTb := 0, quietPart := 0, stuckMs := 0, stuckDue := false }
        port := { Port.reset with period := s.port.period } }

/-- R62: after RST# all entries are unused and the edit area reads zero; after SOFT_RESET entries keep use, address and policy, their run-time fields are reset, no event is set, and the edit area is kept; refs 0 agrees with the slots. -/
def Obligations.NodeTableResets : Prop :=
  (∀ (a b c : Bool) (s : State), ∃ t : State, exec (.rst a b c) s = .next t ∧
    (∀ i, tget t.nodes i = none) ∧ readLive t 0x010 = 0 ∧ readLive t 0x011 = 0) ∧
  ∀ s : State, WriteOpen 0x004 s → ∃ t : State, exec .softReset s = .next t ∧
    (∀ i, tget s.nodes i = none → tget t.nodes i = none) ∧
    (∀ i n, tget s.nodes i = some n → ∃ m, tget t.nodes i = some m ∧
      m.address = n.address ∧ m.retryLimit = n.retryLimit ∧ m.backoffMs = n.backoffMs ∧
      m.waitLimitMs = n.waitLimitMs ∧ m.failThreshold = n.failThreshold ∧
      m.state = .available ∧ m.failCount = 0 ∧ m.backoffLeft = 0 ∧ m.refs = 0 ∧
      nodeState n.address t = some .available) ∧
    t.events.flags = 0 ∧ readLive t 0x010 = readLive s 0x010 ∧ readLive t 0x011 = readLive s 0x011 ∧
    (∀ k, (slotOf t k).state = .free)

/-- R167: the Hold and Notify Unit after RST# and after SOFT_RESET; a stall ends with SBCK released and no claim driven, every hold is OPEN without a grant, the events are cleared, the window settings are kept. -/
def Obligations.HoldUnitResets : Prop :=
  (∀ (a b c : Bool) (s : State), ∃ t : State, exec (.rst a b c) s = .next t ∧
    (∀ i, (windowOf t i).hold = .open) ∧ t.hold.stallTimer = none ∧ t.hold.stallWindow = none ∧
    t.hold.reasonHeld = false ∧ t.hold.reasonFull = false ∧ t.hold.queue = [] ∧ t.hold.queue.length = 0 ∧
    t.hold.reservation = false ∧ t.hold.sequence = 0 ∧ readLive t 0x078 = 0) ∧
  ∀ s : State, WriteOpen 0x004 s → ∃ t : State, exec .softReset s = .next t ∧
    (∀ i, (windowOf t i).hold = .open) ∧ t.hold.stallTimer = none ∧ t.hold.stallWindow = none ∧
    t.hold.reasonHeld = false ∧ t.hold.reasonFull = false ∧ t.hold.queue = [] ∧ t.hold.queue.length = 0 ∧
    t.hold.reservation = false ∧ t.hold.sequence = 0 ∧ readLive t 0x078 = 0 ∧
    t.responder.st = .off ∧ t.responder.driveSbck = false ∧ t.responder.driveSbdt = false ∧
    (∀ e : Event, eventSet e t = false) ∧
    ∀ i, (windowOf t i).notify = (windowOf s i).notify ∧ (windowOf t i).contention = (windowOf s i).contention ∧
      (windowOf t i).stallMs = (windowOf s i).stallMs ∧ (windowOf t i).enabled = (windowOf s i).enabled ∧
      (windowOf t i).node = (windowOf s i).node ∧ (windowOf t i).base = (windowOf s i).base ∧
      (windowOf t i).size = (windowOf s i).size ∧ (windowOf t i).access = (windowOf s i).access

/-! ### The Host Port and the register window -/

/-- SPI framing: CS# falls and a header is taken; a valid header sets the pointer and opens a read or a write; CS# rises and the transaction ends (R184); nothing else of the part changes. The model's conventions: log 14, 16. -/
def Obligations.SpiFraming : Prop :=
  ∀ s : State,
    (s.host.txn = .closed →
      exec .csFall s = .next
        { s with host := { s.host with txn := .header, frozen := [], miso := none, shifting := false } }) ∧
    (s.host.txn = .header → ∀ h : BitVec 16, h.extractLsb' 9 6 = 0 →
      exec (.spiHeader h) s = .next
        { s with host := { s.host with
          pointer := h.extractLsb' 0 9
          txn := if h.getLsbD 15 then .reading else .writing } }) ∧
    (s.host.txn ≠ .closed →
      exec .spiTransactionEnd s = .next
        { s with host := { s.host with txn := .closed, frozen := [], miso := none, shifting := false } })

/-- R185: a malformed header sets HOST_FORMAT and the pointer stays; the rest of the transaction takes no word, posts no command, changes no state and drives MISO low until CS# rises; a CS# that rises before the 16th header bit sets no event and changes nothing. -/
def Obligations.MalformedHeader : Prop :=
  (∀ (s : State) (h : BitVec 16), s.host.txn = .header → h.extractLsb' 9 6 ≠ 0 →
    exec (.spiHeader h) s = .next
      { s with
        host := { s.host with txn := .ignoring }
        events := { s.events with flags := s.events.flags ||| 0x400 } }) ∧
  (∀ s : State, s.host.txn = .ignoring →
    (∀ (a : BitVec 9) (w : BitVec 32), exec (.registerWrite a w) s = .next s) ∧
    (∀ c ∈ [Instr.submit, .popCompletion, .popNotify, .nodeWrite, .portEnable, .portDisable, .recover, .softReset],
      exec c s = .next s) ∧
    (∀ arg : BitVec 16, ∀ c ∈ [Instr.cancel arg, .nodeRemove arg, .nodeResume arg, .windowWrite arg, .windowEnable arg,
      .windowDisable arg, .holdWindow arg, .releaseWindow arg, .spiHeader arg], exec c s = .next s) ∧
    (∀ code : BitVec 8, exec (.badCommand code) s = .next s) ∧
    (∀ w : BitVec 32, ∀ c ∈ [Instr.portConfigurationWrite w, .timingConfigurationWrite w, .queueLimitsWrite w,
      .eventsWrite w, .eventEnablesWrite w], exec c s = .next s) ∧
    readTurn s = false ∧ misoDrive s = .low ∧
    ∃ t : State, exec .spiTransactionEnd s = .next t ∧ t.host.txn = .closed ∧ t.events = s.events ∧
      t.host.pointer = s.host.pointer) ∧
  ∀ s : State, s.host.txn = .header →
    exec .spiTransactionEnd s = .next
      { s with host := { s.host with txn := .closed, frozen := [], miso := none, shifting := false } }

/-- REGISTER_WRITE at the command word is the command that its code lists, with its argument; a code that is not listed is BAD_COMMAND (R189). That a REGISTER_WRITE at another row's word is that row's command, the command word among them, is the model's choice (log 25). -/
def Obligations.CommandWordIsItsRow : Prop :=
  ∀ (w : BitVec 32) (s : State),
    let code := w.extractLsb' 0 8
    let arg := w.extractLsb' 16 16
    (code = 0x01 → exec (.registerWrite 0x004 w) s = exec .submit s) ∧
    (code = 0x02 → exec (.registerWrite 0x004 w) s = exec (.cancel arg) s) ∧
    (code = 0x03 → exec (.registerWrite 0x004 w) s = exec .popCompletion s) ∧
    (code = 0x04 → exec (.registerWrite 0x004 w) s = exec .popNotify s) ∧
    (code = 0x10 → exec (.registerWrite 0x004 w) s = exec .nodeWrite s) ∧
    (code = 0x11 → exec (.registerWrite 0x004 w) s = exec (.nodeRemove arg) s) ∧
    (code = 0x12 → exec (.registerWrite 0x004 w) s = exec (.nodeResume arg) s) ∧
    (code = 0x20 → exec (.registerWrite 0x004 w) s = exec (.windowWrite arg) s) ∧
    (code = 0x21 → exec (.registerWrite 0x004 w) s = exec (.windowEnable arg) s) ∧
    (code = 0x22 → exec (.registerWrite 0x004 w) s = exec (.windowDisable arg) s) ∧
    (code = 0x23 → exec (.registerWrite 0x004 w) s = exec (.holdWindow arg) s) ∧
    (code = 0x24 → exec (.registerWrite 0x004 w) s = exec (.releaseWindow arg) s) ∧
    (code = 0x30 → exec (.registerWrite 0x004 w) s = exec .portEnable s) ∧
    (code = 0x31 → exec (.registerWrite 0x004 w) s = exec .portDisable s) ∧
    (code = 0x32 → exec (.registerWrite 0x004 w) s = exec .recover s) ∧
    (code = 0x3F → exec (.registerWrite 0x004 w) s = exec .softReset s) ∧
    ((Instr.badCommand code).wellFormed = true →
      exec (.registerWrite 0x004 w) s = exec (.badCommand code) s ∧
      (WriteOpen 0x004 s → exec (.badCommand code) s = .next { s with host := posted .badCommand 0 s.host }))

/-- The configuration and limit words: word 0x001 is stored in DISABLED only and restarts the Tb in progress (R19, R170); a stuck limit of 0 is not stored, the pass limit always is (R52, R171); a queue limit outside 1–32 keeps its value (R42). The events word and the enables word (R191, R192): a 1 clears its flag, a 0 keeps it; the enables are written whole; bits 31–11 read 0; INT# is low exactly while a set flag is enabled. -/
def Obligations.ConfigurationAndEventWords : Prop :=
  (∀ (w : BitVec 32) (s : State),
     (WriteOpen 0x001 s →
       (s.port.state = .disabled →
         exec (.portConfigurationWrite w) s = .next
           { s with
             host := wordTaken s.host
             cfg := { s.cfg with
               ownAddr := w.extractLsb' 0 8, bitDiv := w.extractLsb' 8 11, quietSel := w.extractLsb' 20 2 }
             line := { s.line with quietPart := 0 } }) ∧
       (s.port.state ≠ .disabled →
         exec (.portConfigurationWrite w) s = .next { s with host := wordTaken s.host })) ∧
     (WriteOpen 0x002 s →
       exec (.timingConfigurationWrite w) s = .next
         { s with
           host := wordTaken s.host
           cfg := { s.cfg with
             stuckLimit := if w.extractLsb' 0 8 = 0 then s.cfg.stuckLimit else w.extractLsb' 0 8
             passLimit := w.extractLsb' 8 4 } }) ∧
     (WriteOpen 0x003 s →
       let field := fun (old new : BitVec 6) => if 1 ≤ new.toNat ∧ new.toNat ≤ 32 then new else old
       exec (.queueLimitsWrite w) s = .next
         { s with
           host := wordTaken s.host
           cfg := { s.cfg with
             limitExp := field s.cfg.limitExp (w.extractLsb' 0 6)
             limitStd := field s.cfg.limitStd (w.extractLsb' 8 6)
             limitBkg := field s.cfg.limitBkg (w.extractLsb' 16 6) } })) ∧
  ((∀ (w : BitVec 32) (s : State), WriteOpen 0x006 s →
     exec (.eventsWrite w) s = .next
       { s with
         host := wordTaken s.host
         events := { s.events with flags := s.events.flags &&& ~~~(w.extractLsb' 0 11) } }) ∧
   (∀ (w : BitVec 32) (s : State), WriteOpen 0x007 s →
     exec (.eventEnablesWrite w) s = .next
       { s with host := wordTaken s.host, events := { s.events with enables := w.extractLsb' 0 11 } }) ∧
   ∀ s : State,
     readLive s 0x006 = s.events.flags.setWidth 32 ∧ readLive s 0x007 = s.events.enables.setWidth 32 ∧
     (intHigh s = false ↔ ∃ i, s.events.flags.getLsbD i = true ∧ s.events.enables.getLsbD i = true))

/-- R171: the stuck limit is 30 after RST#, kept by SOFT_RESET, stored where it is not 0 in any port state; the Line Monitor compares its running count with the new limit, and the stuck report is due from that tick on (the due state is the model's, log 4); the pass limit of the same write is stored whatever happened to the stuck limit; a read returns the limits in force. -/
def Obligations.StuckLimitWrite : Prop :=
  (∀ (a b c : Bool) (s : State), ∃ t : State, exec (.rst a b c) s = .next t ∧ t.cfg.stuckLimit = 30) ∧
  (∀ s : State, WriteOpen 0x004 s → ∃ t : State, exec .softReset s = .next t ∧ t.cfg.stuckLimit = s.cfg.stuckLimit) ∧
  ∀ (w : BitVec 32) (s : State), WriteOpen 0x002 s →
    ∃ t : State, exec (.timingConfigurationWrite w) s = .next t ∧
      (w.extractLsb' 0 8 ≠ 0 → t.cfg.stuckLimit = w.extractLsb' 0 8) ∧
      (w.extractLsb' 0 8 = 0 → t.cfg.stuckLimit = s.cfg.stuckLimit) ∧
      t.cfg.passLimit = w.extractLsb' 8 4 ∧
      t.line = s.line ∧
      (∃ u : State, exec .msTick t = .next u ∧
        (stuckAdvances t = true →
          u.line.stuckMs = s.line.stuckMs + 1 ∧
            u.line.stuckDue = (s.line.stuckDue || decide (t.cfg.stuckLimit.toNat ≤ s.line.stuckMs + 1)))) ∧
      (readLive t 0x002).extractLsb' 0 8 = t.cfg.stuckLimit ∧ (readLive t 0x002).extractLsb' 8 4 = t.cfg.passLimit

/-- A whole write at an address without a row of its own (R33, R73, R126, R148, R188, R198, R202, R203): the staging and edit words keep the bits they hold, a word of page memory takes its four bytes and no other byte changes, and any other address is ignored; the pointer rises. -/
def Obligations.RegisterWriteStores : Prop :=
  ∀ (a : BitVec 9) (w : BitVec 32) (s : State), WriteOpen a s →
    (a = 0x010 → exec (.registerWrite a w) s = .next
      { s with host := wordTaken s.host, edit := { s.edit with node0 := w &&& 0x000000FF } }) ∧
    (a = 0x011 → exec (.registerWrite a w) s = .next
      { s with host := wordTaken s.host, edit := { s.edit with node1 := w &&& 0x00FFFFF7 } }) ∧
    (a = 0x012 → exec (.registerWrite a w) s = .next
      { s with host := wordTaken s.host, edit := { s.edit with window0 := w &&& 0x01FF03FF } }) ∧
    (a = 0x013 → exec (.registerWrite a w) s = .next
      { s with host := wordTaken s.host, edit := { s.edit with window1 := w &&& 0x0033FFFF } }) ∧
    (∀ i : Fin 21, a.toNat = 0x040 + i.val → exec (.registerWrite a w) s = .next
      { s with
        host := wordTaken s.host
        edit := { s.edit with
          staging := tset s.edit.staging i
            (w &&& (if i.val = 0 then 0xFFFF07F3 else if i.val ≤ 4 then 0x3FFF03FF else 0xFFFFFFFF)) } }) ∧
    (0x100 ≤ a.toNat → s.page.wf = true → ∃ m : Memory,
      exec (.registerWrite a w) s = .next { s with host := wordTaken s.host, page := m } ∧ m.wf = true ∧
        readLive { s with page := m } a = w ∧
        ∀ x, m.read x = if 4 * (a.toNat - 0x100) ≤ x ∧ x < 4 * (a.toNat - 0x100) + 4
          then wordByte w (x - 4 * (a.toNat - 0x100)) else s.page.read x) ∧
    (a.toNat < 0x100 → a.toNat < 0x040 ∨ 0x054 < a.toNat →
      a ∉ [0x001, 0x002, 0x003, 0x004, 0x006, 0x007, 0x010, 0x011, 0x012, 0x013] →
      exec (.registerWrite a w) s = .next { s with host := wordTaken s.host })

/-- A read transaction takes one word: a word of a frozen group as it was frozen, any other as it stands; the pointer rises; the part's other state does not change (R187). Which step takes it is the model's choice (log 3, 14). Within one transaction every word of a group is taken from the group's contents as they stood when its first word was taken, whatever happens in between (R187). -/
def Obligations.ReadsTakeFrozenGroups : Prop :=
  (∀ s : State, s.pending = [] → nextDue s = none → s.host.txn = .reading → s.host.shifting = false →
     ∃ frozen, step s = .next
       { s with host := { s.host with
         miso := some ((s.host.frozen.lookup s.host.pointer.toNat).getD (readLive s s.host.pointer))
         shifting := true
         frozen := frozen
         pointer := s.host.pointer + 1 } }) ∧
  (∀ (s t : State) (a b : Nat), s.host.pointer.toNat = a → SameGroup a b →
     (∀ x, SameGroup a x → s.host.frozen.lookup x = none) →
     t.host.frozen = (takeReadWord s).host.frozen → t.host.pointer.toNat = b →
     readValue t = readLive s t.host.pointer)

/-- R200: the fields of the notify head record word, all zero by default. -/
def Obligations.NotifyHeadRecordWord : Prop :=
  (∀ s : State, s.hold.queue = [] → readLive s 0x078 = 0) ∧
  ∀ (s : State) (r : NotifyRecord) (rest : List NotifyRecord), s.hold.queue = r :: rest → 1 ≤ r.length → r.length ≤ 32 →
    (readLive s 0x078).extractLsb' 0 8 = r.sequence ∧ (readLive s 0x078).extractLsb' 8 8 = r.source ∧
    ((readLive s 0x078).extractLsb' 16 5).toNat = r.length - 1 ∧ (readLive s 0x078).extractLsb' 21 8 = r.offset ∧
    ((readLive s 0x078).extractLsb' 29 3).toNat = r.window.val ∧
    ∀ w, exec (.registerWrite 0x078 w) s = .next (if canWrite 0x078 s then { s with host := wordTaken s.host } else s)

/-! ### Requests -/

/-- A SUBMIT refused by the first check that fails, with that check's code and value, changes nothing but the result (R34 to R37). That check 9 refuses a count equal to the limit where the limit was written at the count, against R42, is the model's choice (log 37). -/
def Obligations.SubmitRefusals : Prop :=
  ∀ s : State, WriteOpen 0x004 s →
    ((staged s).queue = none → exec .submit s = .next { s with host := posted .badQueue 0 s.host }) ∧
    (PassesChecks s 1 → ¬ (1 ≤ (staged s).count ∧ (staged s).count ≤ 4) →
      exec .submit s = .next { s with host := posted .badCount 0 s.host }) ∧
    (∀ i, PassesChecks s 2 → FirstBad (fun r => r.kind ≠ none) (stagedFrames s) i →
      exec .submit s = .next { s with host := posted .badKind (BitVec.ofNat 8 i) s.host }) ∧
    (∀ i, PassesChecks s 3 → FirstBad LengthOk (stagedFrames s) i →
      exec .submit s = .next { s with host := posted .badLength (BitVec.ofNat 8 i) s.host }) ∧
    (PassesChecks s 4 → 64 < ((stagedFrames s).map RawFrame.length).sum →
      exec .submit s = .next { s with host := posted .overSize 0 s.host }) ∧
    (∀ i, PassesChecks s 5 → FirstBad AddressOk (stagedFrames s) i →
      exec .submit s = .next { s with host := posted .badAddress (BitVec.ofNat 8 i) s.host }) ∧
    (∀ i, PassesChecks s 6 → FirstBad (fun r => nodeState r.dest s ≠ none) (stagedFrames s) i →
      exec .submit s = .next { s with host := posted .nodeUnknown (BitVec.ofNat 8 i) s.host }) ∧
    (∀ i, PassesChecks s 7 → FirstBad (fun r => nodeState r.dest s ≠ some .suspended) (stagedFrames s) i →
      exec .submit s = .next { s with host := posted .nodeSuspended (BitVec.ofNat 8 i) s.host }) ∧
    (∀ q, PassesChecks s 8 → (staged s).queue = some q → queueLimit s.cfg q ≤ (queueList s.sched q).length →
      exec .submit s = .next { s with host := posted .queueFull 0 s.host }) ∧
    (PassesChecks s 9 → (∀ k, (slotOf s k).state ≠ .free) →
      exec .submit s = .next { s with host := posted .noSlot 0 s.host })

/-- A SUBMIT that passes all ten checks places the request in the lowest FREE slot, its queue, its nodes' references and its deadline timer, all in one event; a choice may follow (R38, R39, R48). The tag of a SUBMIT is the first value from the tag counter on that no live slot holds, 0 skipped (R29). -/
def Obligations.SubmitPlacesRequest : Prop :=
  (∀ (s : State) (q : QueueName) (k : Fin 32),
     WriteOpen 0x004 s → PassesChecks s 10 → (staged s).queue = some q →
     (slotOf s k).state = .free → (∀ j, j < k → (slotOf s j).state ≠ .free) →
     ∃ u : State,
       exec .submit s = .next { choose u with host := posted .ok (assignTag s) s.host } ∧
       slotOf u k =
         { Slot.free with
           state := .waiting
           tag := some (assignTag s)
           queue := some q
           prio := (staged s).prio
           chain := chainOf (stagedFrames s)
           data := allocatedData (chainOf (stagedFrames s)) (payloadBytes s.edit) } ∧
       (chainOf (stagedFrames s)).map Frame.dest = (stagedFrames s).map RawFrame.dest ∧
       (∀ j, j ≠ k → slotOf u j = slotOf s j) ∧ u.store.tagCounter = nextTag (assignTag s) ∧
       queueList u.sched q = queueList s.sched q ++ [k] ∧
       (∀ p, p ≠ q → queueList u.sched p = queueList s.sched p) ∧
       timerOf u k = (if (staged s).deadline = 0 then .off else .running (staged s).deadline) ∧
       (∀ j, j ≠ k → timerOf u j = timerOf s j) ∧
       u.sched.passStd = s.sched.passStd ∧ u.sched.passBkg = s.sched.passBkg ∧
       (∀ i, tget u.nodes i = (tget s.nodes i).map fun n =>
         if (stagedFrames s).any (fun r => r.dest == n.address) then { n with refs := n.refs + 1 } else n) ∧
       u.events = s.events ∧ u.completions = s.completions ∧ u.engine = s.engine ∧ u.line = s.line ∧ u.port = s.port ∧
       KeepsRemoteSide s u) ∧
  (∀ s : State, s.store.tagCounter ≠ 0 → (∃ k, (slotOf s k).state = .free) →
     ∃ n, n < 32 ∧ assignTag s = Nat.repeat nextTag n s.store.tagCounter ∧ assignTag s ≠ 0 ∧
       (∀ k, (slotOf s k).live = true → (slotOf s k).tag ≠ some (assignTag s)) ∧
       ∀ m, m < n → ∃ k, (slotOf s k).live = true ∧ (slotOf s k).tag = some (Nat.repeat nextTag m s.store.tagCounter))

/-- The data area at allocation: a WRITE region holds its part of the packed payload, a READ region and every byte beyond the regions is zero (R26, R27, R32). An ACCEPTED READ fills its whole region from the capture buffer and no other byte (R27, R89). The snapshot holds the window's bytes from base + offset on, and zero beyond the frame's length (R139). -/
def Obligations.BufferContents : Prop :=
  (∀ (chain : List Frame) (payload : List Byte), chainLength chain ≤ 64 → payload.length = 64 →
     (∀ f ∈ chain, f.kind = .probe → f.length = 0) →
     (∀ k f j, chain[k]? = some f → j < f.length →
       bufferByte (allocatedData chain payload) (regionStart chain k + j) =
         if f.kind = .write
         then payload.getD (chainLength ((chain.take k).filter fun g => g.kind == .write) + j) 0 else 0) ∧
     ∀ x, chainLength chain ≤ x → bufferByte (allocatedData chain payload) x = 0) ∧
  (∀ (data : Vector Byte 64) (start n : Nat) (capture : Vector Byte 32) (x : Nat), start + n ≤ 64 → n ≤ 32 →
     bufferByte (copyRegion data start capture n) x =
       if start ≤ x ∧ x < start + n then bufferByte capture (x - start) else bufferByte data x) ∧
  (∀ (m : Memory) (a n j : Nat), n ≤ 32 → j < 32 →
     bufferByte (toBuffer 32 (m.readBytes a n)) j = if j < n then m.read (a + j) else 0)

/-- CANCEL acts by the state of the live slot that holds the tag (R121 to R123); a choice may follow the completion of a WAITING request (R48). POP_COMPLETION frees the head record's slot with the FREE values; an empty queue answers EMPTY (R24, R119). -/
def Obligations.CancelAndPopCompletion : Prop :=
  (∀ (s : State) (arg : BitVec 16), WriteOpen 0x004 s → TagsDistinct s →
     (∀ (k : Fin 32) (tag : Byte), arg.toNat = tag.toNat → (slotOf s k).live = true → (slotOf s k).tag = some tag →
       ((slotOf s k).state = .waiting → ∃ u : State, CompletesAs k .cancelled false s u ∧
         exec (.cancel arg) s = .next { choose u with host := posted .ok tag s.host }) ∧
       ((slotOf s k).state = .active →
         exec (.cancel arg) s = .next
           { s with
             host := posted .cancelPending tag s.host
             store := { s.store with slots := tset s.store.slots k { slotOf s k with cancelPending := true } } }) ∧
       ((slotOf s k).state = .done → exec (.cancel arg) s = .next { s with host := posted .tooLate tag s.host })) ∧
     ((∀ (k : Fin 32) (tag : Byte), (slotOf s k).live = true → (slotOf s k).tag = some tag → arg.toNat ≠ tag.toNat) →
       exec (.cancel arg) s = .next { s with host := posted .notFound 0 s.host })) ∧
  (∀ s : State, WriteOpen 0x004 s →
     (∀ r rest, s.completions = r :: rest →
       exec .popCompletion s = .next
         { s with
           host := posted .ok r.tag s.host
           store := { s.store with slots := tset s.store.slots r.slot Slot.free }
           completions := rest }) ∧
     (s.completions = [] → exec .popCompletion s = .next { s with host := posted .empty 0 s.host }))

/-! ### Outcomes -/

/-- A completion does all that R111 to R113 say, and nothing else. A suspension flush completes every WAITING request that names the node NODE_SUSPENDED, EXPEDITE first, then STANDARD, then BACKGROUND, each from head to tail: their records, slots, timers and queues, the refs given back at each node, COMPLETION where one completed, and nothing else (R70, R72, R111 to R113). -/
def Obligations.CompletionAndFlush : Prop :=
  (∀ (k : Fin 32) (o : RequestOutcome) (failed : Bool) (s : State), CompletesAs k o failed s (complete k o failed s)) ∧
  (∀ (s : State) (a : Byte), QueuesExact s →
     let l := (s.sched.exp ++ s.sched.std ++ s.sched.bkg).filter fun k =>
       decide ((slotOf s k).state = .waiting) && names (slotOf s k).chain a
     (flush a s).completions = s.completions ++ l.map (fun k =>
       { slot := k, tag := (slotOf s k).tag.getD 0, outcome := .nodeSuspended, framesDone := 0, failIndex := none,
         failNode := none, attempts := (slotOf s k).attempts, arbLosses := (slotOf s k).arbLosses,
         dataLength := ((slotOf s k).chain.map Frame.length).sum }) ∧
     (∀ k ∈ l, slotOf (flush a s) k =
       { slotOf s k with
         state := .done, framesDone := 0, outcome := some .nodeSuspended, failIndex := none, failNode := none } ∧
       timerOf (flush a s) k = .off) ∧
     (∀ k, k ∉ l → slotOf (flush a s) k = slotOf s k ∧ timerOf (flush a s) k = timerOf s k) ∧
     (∀ q, queueList (flush a s).sched q = (queueList s.sched q).filter fun k => decide (k ∉ l)) ∧
     (∀ k, (slotOf (flush a s) k).state = .waiting → ∀ f ∈ (slotOf (flush a s) k).chain, f.dest ≠ a) ∧
     (∀ i, tget (flush a s).nodes i = (tget s.nodes i).map fun e =>
       { e with refs := e.refs - (l.filter fun k => names (slotOf s k).chain e.address).length }) ∧
     (flush a s).events.flags = (if l = [] then s.events.flags else s.events.flags ||| 0x001) ∧
     (flush a s).events.enables = s.events.enables ∧ (flush a s).store.tagCounter = s.store.tagCounter ∧
     (flush a s).sched.passStd = s.sched.passStd ∧ (flush a s).sched.passBkg = s.sched.passBkg ∧
     (flush a s).engine = s.engine ∧ (flush a s).line = s.line ∧ (flush a s).port = s.port ∧
     KeepsRemoteSide s (flush a s))

/-- An attempt lost in arbitration: arb_losses rises, saturating at 255, and the request is cancelled, expires or returns to WAITING in place (R104, R106). The attempt-end table, row by row; a return row completes EXPIRED where the timer is LAPSED, and row 3 takes back an attempt that won (R58, R105 to R109). The model's conventions: log 31. -/
def Obligations.AttemptEnd : Prop :=
  (∀ (k : Fin 32) (won : Bool) (s : State),
     let x := { slotOf s k with arbLosses := min 255 ((slotOf s k).arbLosses + 1) }
     let lost := { s with store := { s.store with slots := tset s.store.slots k x } }
     (x.cancelPending = true → CompletesAs k .cancelled true lost (attemptEnd k .arbLost won s)) ∧
     (x.cancelPending = false → timerOf s k = .lapsed →
       CompletesAs k .expired false lost (attemptEnd k .arbLost won s)) ∧
     (x.cancelPending = false → timerOf s k ≠ .lapsed →
       attemptEnd k .arbLost won s =
         { s with store := { s.store with slots := tset s.store.slots k { x with state := .waiting } } })) ∧
  (∀ (k : Fin 32) (r : FrameResult) (won : Bool) (s : State), r ≠ .arbLost →
     let x := slotOf s k
     let t := attemptEnd k r won s
     let waits := fun (y : Slot) => { s with store := { s.store with slots := tset s.store.slots k y } }
     let retried := (r = .busy ∨ r = .noResponse ∨ r = .badCheck ∨ r = .busFault) ∧ x.framesDone = 0 ∧
       ∃ f n, x.chain.head? = some f ∧ nodeAt f.dest s = some n ∧ x.attempts ≤ n.retryLimit.toNat ∧ n.state ≠ .suspended
     (x.framesDone = x.chain.length → CompletesAs k .done false s t) ∧
     (x.framesDone ≠ x.chain.length →
       (x.cancelPending = true → CompletesAs k .cancelled true s t) ∧
       (x.cancelPending = false →
         (s.port.state = .stopping → x.framesDone = 0 →
           (timerOf s k ≠ .lapsed →
             t = waits { x with state := .waiting, attempts := if won then x.attempts - 1 else x.attempts }) ∧
           (timerOf s k = .lapsed → CompletesAs k .expired false s t)) ∧
         (s.port.state = .stopping → x.framesDone ≠ 0 → CompletesAs k .portStopped true s t) ∧
         (s.port.state ≠ .stopping →
           (r = .busStuck → CompletesAs k .busStuck true s t) ∧
           (retried → timerOf s k ≠ .lapsed → t = waits { x with state := .waiting }) ∧
           (retried → timerOf s k = .lapsed → CompletesAs k .expired false s t) ∧
           (¬ retried →
             (r = .refused → CompletesAs k .refused true s t) ∧ (r = .busy → CompletesAs k .busy true s t) ∧
             (r = .noTarget → CompletesAs k .noTarget true s t) ∧
             (r = .noResponse → CompletesAs k .noResponse true s t) ∧
             (r = .badCheck → CompletesAs k .badCheck true s t) ∧
             (r = .waitTimeout → CompletesAs k .waitTimeout true s t) ∧
             (r = .busFault → CompletesAs k .busFault true s t))))))

/-! ### Scheduling -/

/-- The candidate of a queue is its oldest eligible request (R44, R45, R50). A choice that puts a request on the bus: the queue by the first step of R50, the pass counters by R51, the slot ACTIVE with frames_done 0, and the engine in ARBITRATING (R47, R50, R51, R53, R79). -/
def Obligations.ChoiceRule : Prop :=
  (∀ (s : State) (q : QueueName) (k : Fin 32), candidate s q = some k ↔ OldestEligible s (queueList s.sched q) k) ∧
  (∀ s : State,
     (¬ MayChoose s → choose s = s) ∧
     (MayChoose s → (∀ q, candidate s q = none) → choose s = s) ∧
     ∀ (q : QueueName) (k : Fin 32) (f : Frame) (n : NodeEntry), MayChoose s → ChoiceFallsOn s q k →
       ¬ NamesOwnWindow s (slotOf s k).chain → (slotOf s k).chain.head? = some f → nodeAt f.dest s = some n →
       choose s =
         { s with
           store := { s.store with
             slots := tset s.store.slots k { slotOf s k with state := .active, framesDone := 0 } }
           sched := { s.sched with
             passStd :=
               if q = .standard then 0
               else if q = .expedite ∧ candidate s .standard ≠ none then min 15 (s.sched.passStd + 1)
               else s.sched.passStd
             passBkg :=
               if q = .background then 0
               else if candidate s .background ≠ none then min 15 (s.sched.passBkg + 1)
               else s.sched.passBkg }
           engine := { Engine.reset with
             capture := s.engine.capture
             st := .arbitrating
             held := some k
             arb := .contending
             waitLimit := n.waitLimitMs
             phase := .startDue } })

/-- A choice of a request that names an enabled window completes it LOCAL_TARGET, and the choice is made again (R54). -/
def Obligations.LocalTargetDisposal : Prop :=
  ∀ (s : State) (q : QueueName) (k : Fin 32), MayChoose s → ChoiceFallsOn s q k →
    NamesOwnWindow s (slotOf s k).chain →
    ∃ u : State, CompletesAs k .localTarget false s u ∧ choose s = choose u

/-- A deadline timer that has run out: a WAITING request completes EXPIRED, an ACTIVE slot's timer is LAPSED (R57, R58). The model's conventions: log 4. A ms tick at every ms timer: deadlines and backoffs and the stall timer fall, the wait timer rises, the stuck timer rises where it advances, and the period count begins again (R21, R56, R67, R91, R157, R168). The model's conventions: log 4, 5. -/
def Obligations.TimersCountAndExpire : Prop :=
  (∀ (k : Fin 32) (s : State), timerOf s k = .running 0 →
     ((slotOf s k).state = .waiting → ∃ u : State, CompletesAs k .expired false s u ∧
       exec (.deadlineExpiry k) s = .next (choose u)) ∧
     ((slotOf s k).state = .active →
       exec (.deadlineExpiry k) s = .next
         { s with sched := { s.sched with timers := tset s.sched.timers k .lapsed } })) ∧
  (∀ s : State,
     exec .msTick s = .next
       { s with
         port := { s.port with period := 0 }
         sched := { s.sched with
           timers := tmap (fun t => match t with | .running n => .running (n - 1) | other => other) s.sched.timers }
         nodes := tmap
           (fun e => e.map fun n => if n.state = .backoff then { n with backoffLeft := n.backoffLeft - 1 } else n) s.nodes
         engine := { s.engine with waitTimer := s.engine.waitTimer.map (· + 1) }
         hold := { s.hold with stallTimer := s.hold.stallTimer.map (· - 1) }
         line :=
           if s.line.state ≠ .stuck ∧
               ((s.line.sbck = false ∧ ownSbck s = false) ∨ (s.line.sbdt = false ∧ ownSbdt s = false))
           then
             { s.line with
               stuckMs := s.line.stuckMs + 1
               stuckDue := s.line.stuckDue || decide (s.cfg.stuckLimit.toNat ≤ s.line.stuckMs + 1) }
           else s.line })

/-! ### The Node Table -/

/-- NODE_WRITE by its four cases; a time of 0 is stored as 1 (R73, R202). NODE_REMOVE by its three cases (R75, R189). NODE_RESUME by the state of the entry (R76, R189), and the expiry of a backoff (R67); a choice may follow (R48). The model's conventions: log 4. -/
def Obligations.NodeCommandsAndBackoffExpiry : Prop :=
  (∀ s : State, WriteOpen 0x004 s →
     let a := s.edit.node0.extractLsb' 0 8
     let some1 := fun (b : Byte) => if b = 0 then 1 else b
     let policy := fun (n : NodeEntry) =>
       { n with
         retryLimit := s.edit.node1.extractLsb' 0 3
         failThreshold := s.edit.node1.extractLsb' 4 4
         backoffMs := some1 (s.edit.node1.extractLsb' 8 8)
         waitLimitMs := some1 (s.edit.node1.extractLsb' 16 8) }
     (a = 0 ∨ a = 255 → exec .nodeWrite s = .next { s with host := posted .badAddress 0 s.host }) ∧
     (a ≠ 0 → a ≠ 255 →
       (∀ i n, tget s.nodes i = some n → n.address = a →
         (∀ j m, j < i → tget s.nodes j = some m → m.address ≠ a) →
         exec .nodeWrite s = .next
           { s with host := posted .ok (BitVec.ofNat 8 i.val) s.host, nodes := tset s.nodes i (some (policy n)) }) ∧
       (∀ i, (∀ j m, tget s.nodes j = some m → m.address ≠ a) → tget s.nodes i = none →
         (∀ j, j < i → tget s.nodes j ≠ none) →
         exec .nodeWrite s = .next
           { s with
             host := posted .ok (BitVec.ofNat 8 i.val) s.host
             nodes := tset s.nodes i
               (some (policy
                 { address := a, retryLimit := 0, backoffMs := 1, waitLimitMs := 1, failThreshold := 0,
                   state := .available, failCount := 0, backoffLeft := 0, refs := 0 })) }) ∧
       ((∀ j, ∃ m, tget s.nodes j = some m ∧ m.address ≠ a) →
         exec .nodeWrite s = .next { s with host := posted .tableFull 0 s.host }))) ∧
  (∀ (s : State) (arg : BitVec 16), WriteOpen 0x004 s → NodesDistinct s →
     ((∀ i n, tget s.nodes i = some n → n.address.toNat ≠ arg.toNat) →
       exec (.nodeRemove arg) s = .next { s with host := posted .notFound 0 s.host }) ∧
     ∀ i n, tget s.nodes i = some n → n.address.toNat = arg.toNat →
       (n.refs ≠ 0 →
         exec (.nodeRemove arg) s = .next { s with host := posted .nodeInUse (BitVec.ofNat 8 i.val) s.host }) ∧
       (n.refs = 0 →
         exec (.nodeRemove arg) s = .next
           { s with host := posted .ok (BitVec.ofNat 8 i.val) s.host, nodes := tset s.nodes i none })) ∧
  ((∀ (s : State) (arg : BitVec 16), WriteOpen 0x004 s → NodesDistinct s →
     ((∀ i n, tget s.nodes i = some n → n.address.toNat ≠ arg.toNat) →
       exec (.nodeResume arg) s = .next { s with host := posted .notFound 0 s.host }) ∧
     ∀ i n, tget s.nodes i = some n → n.address.toNat = arg.toNat →
       (n.state = .available →
         exec (.nodeResume arg) s = .next { s with host := posted .ok (BitVec.ofNat 8 i.val) s.host }) ∧
       (n.state ≠ .available →
         exec (.nodeResume arg) s = .next
           { choose
               { s with nodes := tset s.nodes i (some { n with state := .available, failCount := 0, backoffLeft := 0 }) }
             with host := posted .ok (BitVec.ofNat 8 i.val) s.host })) ∧
   ∀ (s : State) (i : Fin 16) (n : NodeEntry), tget s.nodes i = some n → n.state = .backoff → n.backoffLeft = 0 →
     exec (.backoffExpiry i) s = .next
       (choose { s with nodes := tset s.nodes i (some { n with state := .available, backoffLeft := 0 }) }))

/-- What each frame result does to the entry of its node, and to no other entry (R65, R66, R68, R69). -/
def Obligations.NodeTakesResult : Prop :=
  ∀ (s : State) (r : FrameResult) (a : Byte) (i : Fin 16) (n : NodeEntry), NodesDistinct s →
    tget s.nodes i = some n → n.address = a →
    let t := nodeResult r a s
    let counted := r = .noTarget ∨ r = .noResponse ∨ r = .badCheck ∨ r = .waitTimeout
    let raised := min 15 (n.failCount + 1)
    let suspends := counted ∧ n.failThreshold ≠ 0 ∧ n.failThreshold.toNat ≤ raised
    (∀ j, j ≠ i → tget t.nodes j = tget s.nodes j) ∧
    (r = .accepted ∨ r = .refused → tget t.nodes i = some { n with failCount := 0 }) ∧
    (r = .busy →
      tget t.nodes i = some { n with failCount := 0, state := .backoff, backoffLeft := n.backoffMs.toNat }) ∧
    (suspends → tget t.nodes i = some { n with failCount := raised, state := .suspended, backoffLeft := 0 }) ∧
    (counted → ¬ suspends → tget t.nodes i = some { n with failCount := raised }) ∧
    (r = .busFault ∨ r = .busStuck ∨ r = .arbLost → t.nodes = s.nodes) ∧
    (suspends → t = { s with nodes := t.nodes, events := { s.events with flags := s.events.flags ||| 0x010 } }) ∧
    (¬ suspends → t = { s with nodes := t.nodes })

/-! ### The Controller Engine -/

/-- A frame result is handed on in its order: the slot, the Node Table, the link decision, the attempt end with the flush of a node it suspended, and the engine's next state (R70, R89, R93, R94). That the frame position stays as it stood in RELEASED and STOPPING is the model's choice (log 34). -/
def Obligations.ResultIsHandedOn : Prop :=
  ∀ (s : State) (k : Fin 32) (f : Frame) (r : FrameResult), Runs s k f →
    let x := slotOf s k
    let i := s.engine.frameIndex
    let s1 :=
      if r = .accepted then
        { s with store := { s.store with
          slots := (tset s.store.slots k { x with
            framesDone := x.framesDone + 1
            data := if f.kind = .read then copyRegion x.data (regionStart x.chain i) s.engine.capture f.length
              else x.data }) } }
      else s
    let s2 := nodeResult r f.dest s1
    let links := r = .accepted ∧ i + 1 < x.chain.length ∧ x.cancelPending = false ∧ s.port.state ≠ .stopping
    let s3 := attemptEnd k r (s.engine.arb == .won) s2
    let s4 := if resultSuspends r f.dest s1 then flush f.dest s3 else s3
    (∀ g n, links → x.chain[i + 1]? = some g → nodeAt g.dest s2 = some n →
      reportResult r s =
        { s2 with engine := { s.engine with st := .linking, frameIndex := i + 1, waitLimit := n.waitLimitMs } }) ∧
    (¬ links →
      (r = .arbLost ∨ r = .busStuck → reportResult r s = engineToIdle s4) ∧
      (r = .busFault → reportResult r s =
        { s4 with engine := { s.engine with
          st := .released, held := none, phase := .none, left := 0, waitTimer := none, driveSbck := false,
          driveSbdt := false, sent := none } }) ∧
      (r = .waitTimeout → reportResult r s =
        { s4 with engine := { s.engine with
          st := .stopping, held := none, phase := .timeoutWait, left := 0, waitTimer := none, driveSbdt := false,
          sent := none } }) ∧
      (r = .accepted ∨ r = .refused ∨ r = .busy ∨ r = .noTarget ∨ r = .noResponse ∨ r = .badCheck →
        reportResult r s =
          { s4 with engine := { s.engine with st := .stopping, held := none, waitTimer := none, sent := none } }))

/-- The first period after a choice: with both lines high and the line QUIET the Start is on the bus, which the Responder follows too where it is not OFF; otherwise the attempt ends ARB_LOST and the engine is IDLE (R6, R79). The model's conventions: log 6, 10. A 1 released and a 0 taken in bits 1 to 20 of a first frame: the attempt ends ARB_LOST, the engine is IDLE with both lines released, and the Responder takes the bit (R16, R81). The model's conventions: log 8, 10. Bit 20 taken without a loss: WON, attempts rises by one, HEADER for bits 21 to 35 (R82). The model's conventions: log 8, 10. -/
def Obligations.StartAndArbitration : Prop :=
  (∀ s : State, s.engine.st = .arbitrating → s.engine.phase = .startDue →
     (s.line.sbck = true → s.line.sbdt = true → s.line.state = .quiet →
       let t := { s with
         engine := { s.engine with
           driveSbdt := true, crc := 0xFF, pos := .within 0, phase := .startHold, left := s.cfg.bitDiv.toNat / 2,
           claim := none, check := 0, verified := false, respLow := false }
         line := { s.line with sbdt := false, state := .active, quietTb := 0, quietPart := 0 } }
       exec .engineStart s = .next (responderStart t) ∧
       (s.responder.st = .off → responderStart t = t) ∧
       (s.responder.st = .listening → s.responder.pos = .between →
         responderStart t = { t with responder := { s.responder with
           st := .decoding, pos := .within 0, high := .plain, header := 0, crc := 0xFF, goesOn := false } })) ∧
     (∀ k f, s.line.state ≠ .quiet → Runs s k f →
       exec .engineStart s = .next (engineToIdle (attemptEnd k .arbLost false s)))) ∧
  (∀ (s : State) (k : Fin 32) (f : Frame),
     let u := responderCountEnd s
     RiseComes u false → u.engine.phase = .waiting → u.engine.st = .arbitrating → u.engine.sent = some true →
     Runs u k f →
     exec .arbLost s = .next (responderRise false (engineToIdle (attemptEnd k .arbLost false (risen u))))) ∧
  (∀ (s : State) (k : Fin 32) (b : Bool),
     let u := responderCountEnd s
     RiseComes u b → u.engine.phase = .waiting → u.engine.st = .arbitrating → u.engine.pos = .within 19 →
     u.engine.sent = some b → u.engine.held = some k →
     exec .arbWon s = .next
       (responderRise b
         { risen u with
           engine := { u.engine with
             waitTimer := none, st := .header, arb := .won, pos := .within 20, phase := .high,
             left := u.cfg.bitDiv.toNat / 2, sent := none, crc := crcStep u.engine.crc b }
           store := { u.store with
             slots := tset u.store.slots k { slotOf u k with attempts := (slotOf u k).attempts + 1 } } }))

/-- The claim slot at the engine: a READ or WRITE claimed PROCEED goes on into BODY; any other frame ends at bit 37 with the result that its kind and claim code give, reported as the high phase ends (R86, R90). The model's conventions: log 8, 10, 20. The response slot at the engine: a WRITE is ACCEPTED where the slot is low and NO_RESPONSE where it is high; a READ is ACCEPTED where its check verified and BAD_CHECK where it failed; reported as the high phase ends (R87, R89, R90). The model's conventions: log 8, 10, 20. -/
def Obligations.ClaimAndResponseSlots : Prop :=
  (∀ (s : State) (k : Fin 32) (f : Frame) (b : Bool),
     let u := responderCountEnd s
     let c := claimOfBits u.engine.claimFirst b
     let taken := { u.engine with
       waitTimer := none, pos := .within 37, phase := .high, left := u.cfg.bitDiv.toNat / 2, sent := none, claim := some c }
     RiseComes u b → u.engine.phase = .waiting → u.engine.st = .claim → u.engine.pos = .within 36 →
     u.engine.sent = none → Runs u k f →
     (c = .proceed → f.kind ≠ .probe →
       exec .engineClaim s = .next
         (responderRise b
           { risen u with
             engine := { taken with
               st := .body
               check := 0
               verified := false
               capture := if f.kind = .read then Vector.replicate 32 0 else u.engine.capture } })) ∧
     (c ≠ .proceed ∨ f.kind = .probe →
       let v := responderRise b { risen u with engine := taken }
       let r := match c with | .proceed => FrameResult.accepted | .busy => .busy | .refuse => .refused | .none => .noTarget
       exec .engineClaim s = .next
         (responderFall (pullClock (reportResult r
           { v with
             line := { v.line with sbck := false, quietTb := 0, quietPart := 0 }
             engine := { taken with pos := .boundary } }))))) ∧
  (∀ (s : State) (k : Fin 32) (f : Frame) (b : Bool),
     let u := responderCountEnd s
     let taken := { u.engine with
       waitTimer := none, pos := .within (46 + 8 * f.length), phase := .high, left := u.cfg.bitDiv.toNat / 2,
       sent := none, respLow := !b }
     RiseComes u b → u.engine.phase = .waiting → u.engine.st = .response →
     u.engine.pos = .within (45 + 8 * f.length) → Runs u k f →
     (u.engine.sent = none ∨ u.engine.sent = some b) → f.kind = .write ∨ f.kind = .read →
     let v := responderRise b { risen u with engine := taken }
     let r :=
       if f.kind = .read then (if u.engine.verified then FrameResult.accepted else .badCheck)
       else (if b = false then .accepted else .noResponse)
     exec .engineResponseSlot s = .next
       (responderFall (pullClock (reportResult r
         { v with
           line := { v.line with sbck := false, quietTb := 0, quietPart := 0 }
           engine := { taken with pos := .boundary } }))))

/-- BUS_FAULT: a driven bit that is taken otherwise, outside a lost arbitration; a rise at which the Restart cannot be produced, SBDT low or the sequence given up (R8); a condition in any high phase of a frame that the engine drives. The engine is RELEASED with both lines released (R17, R83, R84, R95). The model's conventions: log 8, 10, 12, 34. A wait that has reached the wait limit in force: WAIT_TIMEOUT is reported, and the engine is STOPPING, waiting with both lines released for SBCK to rise (R91, R92). The model's conventions: log 4, 34. -/
def Obligations.BusFaultAndWaitTimeout : Prop :=
  ((∀ (s : State) (b : Bool),
     let u := responderCountEnd s
     RiseComes u b → u.engine.phase = .waiting → u.engine.st ≠ .stopping → u.engine.st ≠ .linking →
     u.engine.sent = some (!b) → ¬ (u.engine.st = .arbitrating ∧ b = false) →
     exec .busFault s = .next (responderRise b (reportResult .busFault (risen u)))) ∧
   (∀ (s : State) (b : Bool),
     let u := responderCountEnd s
     RiseComes u b → u.engine.phase = .waiting → u.engine.st = .linking → b = false ∨ u.engine.pos = .between →
     exec .busFault s = .next (responderRise b (reportResult .busFault (risen u)))) ∧
   (∀ s : State, s.engine.phase = .high ∨ (s.engine.phase = .condFirst ∧ s.engine.st = .linking) →
     s.line.sbck = true → s.line.sbdt = true →
     exec .busFault s = .next
       (responderStart (reportResult .busFault
         { s with line := { s.line with
           sbdt := false, state := if s.line.state = .quiet then .active else s.line.state, quietTb := 0,
           quietPart := 0 } }))) ∧
   ∀ s : State, s.engine.phase = .high ∨ (s.engine.phase = .condFirst ∧ s.engine.st = .linking) →
     s.line.sbck = true → s.line.sbdt = false → ownSbdt s = false → s.port.recovery = .none →
     exec .busFault s = .next
       (responderClose (reportResult .busFault
         { s with line := { s.line with sbdt := true, stuckMs := 0, stuckDue := false } }))) ∧
  (∀ (s : State) (n : Nat), s.engine.st.inFrame = true → s.engine.phase = .waiting → s.engine.waitTimer = some n →
     s.engine.waitLimit.toNat ≤ n →
     exec .waitTimeout s = .next (reportResult .waitTimeout s) ∧
     (reportResult .waitTimeout s).engine =
       { s.engine with
         st := .stopping, held := none, phase := .timeoutWait, left := 0, waitTimer := none, driveSbdt := false,
         sent := none })

/-- The Restart: half a high-phase length after SBCK reads high SBDT is pulled low, and at the end of the high phase SBCK; the linked frame begins in HEADER at 0 bits with the CRC register 0xFF, and the Responder follows it where it is not OFF (R7, R95). The model's conventions: log 20, 32. The Stop: SBDT reads high with SBCK high, and the engine is IDLE; SBDT still low when half a high-phase length is over, and the engine is RELEASED with both lines released (R97). The model's conventions: log 2, 34. The high phases that carry a condition or follow a wait timeout: SBCK reads high and half a high-phase length is counted, after which a Stop releases SBDT and a Restart pulls it low, a Start to the Responder (R5, R7, R95, R97); the rest of a Restart's high phase ends with SBCK pulled low, by the engine's count or by another controller, and the linked frame begins (R4, R95); after a wait timeout the rise begins one more high phase, which ends with SBCK pulled low for the Stop (R92). Where another controller pulls SBCK low in such a high phase before the condition is on the bus, the engine pulls SBCK low too and counts its low phase (R4), and a BOUNDARY becomes BETWEEN, the sequence given up (R8); what follows, BUS_FAULT for a Restart and one more Stop, is the model's choice (log 12). The model's conventions: log 5, 6, 10, 12, 32, 34, 39. The engine enters IDLE with its IDLE values; a STOPPING port becomes DISABLED with PORT_STOPPED, and the Line Monitor starts again (R18, R78, R175). -/
def Obligations.ConditionsOfEngine : Prop :=
  (∀ s : State, s.engine.st = .linking → s.engine.phase = .condFirst → s.line.sbck = true →
     let linked := { s with
       engine := { s.engine with
         st := .header, pos := .within 0, crc := 0xFF, claim := none, check := 0, verified := false, respLow := false,
         driveSbdt := true, driveSbck := true, phase := .lowFirst, left := (s.cfg.bitDiv.toNat + 1) / 2 / 2 }
       line := { s.line with
         sbck := false, sbdt := false, state := if s.line.state = .quiet then .active else s.line.state, quietTb := 0,
         quietPart := 0 } }
     (s.responder.st = .off → exec .restart s = .next linked) ∧
     (s.responder.st = .listening → s.responder.pos = .boundary → s.responder.high ≠ .lastBit →
       s.responder.driveSbdt = false →
       exec .restart s = .next
         { linked with
           responder := { s.responder with
             st := .decoding, pos := .within 0, high := .plain, header := 0, crc := 0xFF, goesOn := false, delay := none,
             want := false, commits := false } })) ∧
  ((∀ s : State, s.engine.st = .stopping → s.engine.phase = .stopWait → s.line.sbck = true → s.line.sbdt = false →
     ownSbdt s = false → s.port.recovery = .none → s.line.state ≠ .quiet →
     exec .stop s = .next
       (responderClose (engineToIdle { s with line := { s.line with sbdt := true, stuckMs := 0, stuckDue := false } }))) ∧
   ∀ s : State, s.engine.st = .stopping → s.engine.phase = .stopWait → s.line.sbdt = false →
     exec .released s = .next
       { s with engine := { s.engine with
         st := .released, phase := .none, left := 0, driveSbck := false, driveSbdt := false, sent := none } }) ∧
  ((∀ (s : State) (b : Bool), RiseComes s b →
     let counts := fun (p : ClockPhase) (n : Nat) =>
       exec (.sbckRise true) s = .next
         (responderRise b { risen s with engine := { s.engine with waitTimer := none, phase := p, left := n } })
     (s.engine.phase = .waiting → s.engine.st = .stopping ∨ (s.engine.st = .linking ∧ b = true ∧ s.engine.pos ≠ .between) →
       counts .condFirst (s.cfg.bitDiv.toNat / 2 / 2)) ∧
     (s.engine.phase = .timeoutWait → s.engine.waitTimer = none → counts .timeoutHigh (s.cfg.bitDiv.toNat / 2))) ∧
   (∀ s : State, s.port.recovery = .none →
     (s.engine.phase = .condFirst → s.engine.st = .stopping →
       exec (.phaseCountEnd .controller) s = .next
         { s with engine := { s.engine with
           driveSbdt := false, phase := .stopWait, left := s.cfg.bitDiv.toNat / 2 / 2 } }) ∧
     (s.engine.phase = .condFirst → s.engine.st = .linking →
       let fell := { s with
         engine := { s.engine with
           driveSbdt := true, phase := .condSecond, left := s.cfg.bitDiv.toNat / 2 - s.cfg.bitDiv.toNat / 2 / 2 }
         line := { s.line with
           sbdt := false, state := if s.line.state = .quiet then .active else s.line.state, quietTb := 0,
           quietPart := 0 } }
       let opened := fun (t : State) => Host.Outcome.next (ρ := Refusal) (φ := Fault)
         { t with responder := { t.responder with
           st := .decoding, pos := .within 0, high := .plain, header := 0, crc := 0xFF, goesOn := false } }
       (s.responder.st = .off → exec (.phaseCountEnd .controller) s = .next fell) ∧
       (s.responder.st ≠ .off →
         (s.responder.pos = .between ∨ (s.responder.pos = .boundary ∧ s.responder.high ≠ .lastBit) →
           exec (.phaseCountEnd .controller) s = opened fell) ∧
         (∀ n, s.responder.pos = .within n ∨ (s.responder.pos = .boundary ∧ s.responder.high = .lastBit) →
           exec (.phaseCountEnd .controller) s = opened (giveUpFrame fell)))) ∧
     (s.engine.phase = .stopWait →
       exec (.phaseCountEnd .controller) s = .next
         { s with engine := { s.engine with
           st := .released, phase := .none, left := 0, driveSbck := false, driveSbdt := false, sent := none } })) ∧
   ∀ s : State,
     let low := { s.line with
       sbck := false, state := if s.line.state = .quiet then .active else s.line.state, quietTb := 0, quietPart := 0 }
     let pulled := fun (p : FramePos) =>
       responderFall
         { s with
           line := low
           engine := { s.engine with driveSbck := true, phase := .lowFirst, left := lowLen s / 2, pos := p } }
     (s.engine.phase = .condSecond →
       let linked := responderFall
         { s with
           line := low
           engine := { s.engine with
             st := .header, pos := .within 0, crc := 0xFF, claim := none, check := 0, verified := false, respLow := false,
             driveSbck := true, phase := .lowFirst, left := lowLen s / 2 } }
       (s.line.sbck = true → exec .sbckFall s = .next linked) ∧
       (s.port.recovery = .none → exec (.phaseCountEnd .controller) s = .next linked)) ∧
     (s.port.recovery = .none → s.engine.phase = .timeoutHigh →
       exec (.phaseCountEnd .controller) s = .next
         (pulled (if s.engine.pos = .boundary then .between else s.engine.pos))) ∧
     (s.line.sbck = true →
       s.engine.phase = .condFirst ∨ s.engine.phase = .stopWait ∨ s.engine.phase = .timeoutHigh →
       exec .sbckFall s = .next (pulled (if s.engine.pos = .boundary then .between else s.engine.pos)))) ∧
  (∀ s : State,
     (s.port.state ≠ .stopping →
       engineToIdle s = { s with engine := { Engine.reset with capture := s.engine.capture } }) ∧
     (s.port.state = .stopping →
       engineToIdle s =
         { s with
           engine := { Engine.reset with capture := s.engine.capture }
           port := { s.port with state := .disabled }
           line := { s.line with state := .active, quietTb := 0, quietPart := 0, stuckMs := 0, stuckDue := false }
           events := { s.events with flags := s.events.flags ||| 0x100 } }))

/-! ### The clock and the lines -/

/-- The part as controller: SBDT takes the frame's bit at the midpoint of the low phase, SBCK is released at its end with the wait timer at 0, and the Start's high phase ends with SBCK pulled low (R1, R2, R3, R6, R80, R91); a count of the engine ends only while no recovery runs. The model's conventions: log 5, 6, 19, 32. What the engine does with SBDT at the midpoint of a low phase past the header: it releases SBDT in the claim slot, drives a WRITE's body from the slot's region and its check from the CRC register, releases SBDT in a READ's body and check and in a WRITE's response slot, and drives ACCEPT for a READ that verified (R86 to R89); SBDT is high for a Restart and low for a Stop (R7). The model's conventions: log 5, 6, 32. The part as follower: 10 REFCLK periods after the fall SBDT takes the level that the Responder sends; a 0 pulls SBDT low, where it reads low already it stays, and where SBCK has risen first the fall is a condition to the engine and to the Responder, with no commit; after a stall SBCK is released (R2, R5, R84, R132, R140, R144, R158). The model's conventions: log 5, 6, 8, 10, 21, 39. -/
def Obligations.PhaseCountEnds : Prop :=
  (∀ s : State, s.port.recovery = .none →
     (∀ (k : Fin 32) (f : Frame) (n : Nat), s.engine.phase = .lowFirst → Runs s k f → s.engine.pos = .within n → n < 35 →
       s.engine.st = .arbitrating ∨ s.engine.st = .header →
       let bit := (headerOf (slotOf s k).prio s.cfg.ownAddr f).getMsbD n
       let t := { s with engine := { s.engine with
         driveSbdt := !bit, sent := some bit, phase := .lowSecond, left := lowLen s - lowLen s / 2 } }
       exec (.phaseCountEnd .controller) s = .next
         (if bit then t else
           { t with line := { s.line with
             sbdt := false, state := if s.line.state = .quiet then .active else s.line.state, quietTb := 0,
             quietPart := 0 } })) ∧
     (s.engine.phase = .lowSecond →
       exec (.phaseCountEnd .controller) s = .next
         { s with engine := { s.engine with
           driveSbck := false, phase := .waiting, left := 0,
           waitTimer := if s.engine.st.inFrame then some 0 else none } }) ∧
     (s.engine.phase = .startHold →
       exec (.phaseCountEnd .controller) s = .next
         (responderFall
           { s with
             engine := { s.engine with driveSbck := true, phase := .lowFirst, left := lowLen s / 2 }
             line := { s.line with
               sbck := false, state := if s.line.state = .quiet then .active else s.line.state, quietTb := 0,
               quietPart := 0 } }))) ∧
  (∀ s : State, s.port.recovery = .none → s.engine.phase = .lowFirst →
     let sends := fun (bit : Option Bool) => Host.Outcome.next (ρ := Refusal) (φ := Fault)
       { s with
         engine := { s.engine with
           driveSbdt := decide (bit = some false), sent := bit, phase := .lowSecond, left := lowLen s - lowLen s / 2 }
         line :=
           if bit = some false then
             { s.line with
               sbdt := false, state := if s.line.state = .quiet then .active else s.line.state, quietTb := 0,
               quietPart := 0 }
           else s.line }
     (∀ (k : Fin 32) (f : Frame) (n : Nat), Runs s k f → s.engine.pos = .within n →
       s.engine.st = .claim ∨ s.engine.st = .body ∨ s.engine.st = .check ∨ s.engine.st = .response →
       let x := slotOf s k
       let start := (((x.chain.take s.engine.frameIndex).map Frame.length).sum)
       (35 ≤ n → n < 37 → exec (.phaseCountEnd .controller) s = sends none) ∧
       (f.kind = .write →
         (37 ≤ n → n < 37 + 8 * f.length →
           exec (.phaseCountEnd .controller) s =
             sends (some (byteBit (bufferByte x.data (start + (n - 37) / 8)) ((n - 37) % 8)))) ∧
         (37 + 8 * f.length ≤ n → n < 45 + 8 * f.length →
           exec (.phaseCountEnd .controller) s = sends (some (byteBit s.engine.crc (n - (37 + 8 * f.length))))) ∧
         (n = 45 + 8 * f.length → exec (.phaseCountEnd .controller) s = sends none)) ∧
       (f.kind = .read →
         (37 ≤ n → n < 45 + 8 * f.length → exec (.phaseCountEnd .controller) s = sends none) ∧
         (n = 45 + 8 * f.length →
           exec (.phaseCountEnd .controller) s = sends (if s.engine.verified then some false else none)))) ∧
     (s.engine.st = .linking → exec (.phaseCountEnd .controller) s = sends none) ∧
     (s.engine.st = .stopping →
       exec (.phaseCountEnd .controller) s = .next
         { s with
           engine := { s.engine with
             driveSbdt := true, sent := none, phase := .lowSecond, left := lowLen s - lowLen s / 2 }
           line := { s.line with
             sbdt := false, state := if s.line.state = .quiet then .active else s.line.state, quietTb := 0,
             quietPart := 0 } })) ∧
  (∀ (s : State) (d : Nat),
     (s.responder.delay = some d → s.responder.release = none → s.responder.commits = false ∨ s.line.sbck = true →
       let set := { s.responder with delay := none, want := false, commits := false, driveSbdt := s.responder.want }
       let low := { s.line with
         sbdt := false, state := if s.line.state = .quiet then .active else s.line.state, quietTb := 0, quietPart := 0 }
       let faults := s.engine.phase = .high ∨ (s.engine.phase = .condFirst ∧ s.engine.st = .linking)
       (s.responder.want = false ∨ s.line.sbdt = false →
         exec (.phaseCountEnd .responder) s = .next { s with responder := set }) ∧
       (s.responder.want = true → s.line.sbdt = true →
         (s.line.sbck = false →
           exec (.phaseCountEnd .responder) s = .next { s with line := low, responder := set }) ∧
         (s.line.sbck = true →
           (¬ faults →
             exec (.phaseCountEnd .responder) s = .next (responderStart { s with line := low, responder := set })) ∧
           (faults →
             exec (.phaseCountEnd .responder) s = .next
               (responderStart (reportResult .busFault { s with line := low, responder := set })))))) ∧
     (s.responder.delay = none → s.responder.release = some d →
       exec (.phaseCountEnd .responder) s = .next
         { s with responder := { s.responder with driveSbck := false, release := none } }))

/-- SBCK falls, for the engine first and then for the Responder: in a high phase of any bit before the frame's last, the first claim bits and the check among them, the engine pulls SBCK low at once and counts its low phase (R4); at the frame's last bit it reports the result first, at BOUNDARY (R86, R87, R89, R90); by its own count it does the same; an engine without a clock does nothing; the Responder in SENDING sets its next bit 10 REFCLK periods later (R2, R132, R140), and a stalling Responder pulls SBCK low at once (R157). The model's conventions: log 5, 6, 9, 10, 32, 33. SBCK rises: the engine takes a header bit that it drove, counting its high phase and the check (R2, R14); the Responder takes a header bit or a body bit (R5, R13, R14, R133, R141); the stuck timer is cleared (R21). The model's conventions: log 8, 9, 10. What the engine takes at a rise of SBCK that is neither a loss nor a fault: bits 1 to 34 of the header; bit 20 of a first frame, which wins arbitration and raises attempts; bit 35, which opens the claim slot; the two claim bits, the second of which takes a READ or WRITE claimed PROCEED on into BODY and keeps the claim code of any other frame; a body bit, which goes into the CRC register and, for a READ, into the capture buffer, byte by byte from its most significant bit; a check bit, and at the last one a READ's comparison with the CRC register; the response slot (R13, R14, R80, R82, R86 to R89). The model's conventions: log 8, 9, 10. -/
def Obligations.SbckChanges : Prop :=
  (∀ s : State, s.line.sbck = true →
     let low := { s.line with
       sbck := false, state := if s.line.state = .quiet then .active else s.line.state, quietTb := 0, quietPart := 0 }
     (s.engine.phase = .high →
       let pulls := exec .sbckFall s = .next
         (responderFall
           { s with
             line := low
             engine := { s.engine with driveSbck := true, phase := .lowFirst, left := lowLen s / 2 } })
       let reports := fun (r : FrameResult) => exec .sbckFall s = .next
         (responderFall (pullClock (reportResult r { s with line := low, engine := { s.engine with pos := .boundary } })))
       (s.engine.st = .arbitrating ∨ s.engine.st = .header ∨ s.engine.st = .body ∨ s.engine.st = .check → pulls) ∧
       (s.engine.st = .claim →
         (∀ n, s.engine.pos = .within n → n < 37 → pulls) ∧
         (s.engine.pos = .within 37 →
           (s.engine.claim = some .proceed → reports .accepted) ∧
           (s.engine.claim = some .busy → reports .busy) ∧
           (s.engine.claim = some .refuse → reports .refused) ∧
           (s.engine.claim = some .none → reports .noTarget))) ∧
       (∀ (k : Fin 32) (f : Frame) (n : Nat), s.engine.st = .response → Runs s k f → s.engine.pos = .within n →
         (n < 46 + 8 * f.length → pulls) ∧
         (n = 46 + 8 * f.length →
           (f.kind = .read → reports (if s.engine.verified then .accepted else .badCheck)) ∧
           (f.kind = .write → reports (if s.engine.respLow then .accepted else .noResponse))))) ∧
     (s.port.recovery = .none →
       s.engine.phase = .startHold ∨ s.engine.phase = .high ∨ s.engine.phase = .condSecond ∨
         s.engine.phase = .timeoutHigh →
       exec (.phaseCountEnd .controller) s = exec .sbckFall s) ∧
     (s.engine.phase = .none → exec .sbckFall s = .next (responderFall { s with line := low })) ∧
     (∀ n, s.engine.phase = .none → s.responder.st = .sending → s.responder.pos = .within n →
       exec .sbckFall s = .next
         { s with
           line := low
           responder := { s.responder with
             delay := some 10
             want := !(if n < 37 + 8 * frameLen s
               then byteBit (bufferByte s.responder.sendBuf ((n - 37) / 8)) ((n - 37) % 8)
               else byteBit s.responder.crc (n - 37 - 8 * frameLen s))
             commits := false } }) ∧
     (s.engine.phase = .none → s.responder.st = .stalling →
       exec .sbckFall s = .next { s with line := low, responder := { s.responder with driveSbck := true } })) ∧
  ((∀ (s : State) (b : Bool) (n : Nat), RiseComes s b →
     s.engine.phase = .waiting → s.engine.st = .header → s.engine.pos = .within n → n + 1 < 35 → s.engine.sent = some b →
     exec (.sbckRise true) s = .next
       (responderRise b
         { risen s with engine := { s.engine with
           waitTimer := none, pos := .within (n + 1), phase := .high, left := s.cfg.bitDiv.toNat / 2, sent := none,
           crc := crcStep s.engine.crc b } })) ∧
   (∀ (s : State) (b : Bool) (n : Nat), RiseComes s b → s.engine.phase = .none → s.responder.st = .decoding →
     s.responder.pos = .within n → n + 1 < 35 →
     exec (.sbckRise true) s = .next
       { s with
         line := { s.line with sbck := true, stuckMs := 0, stuckDue := false }
         responder := { s.responder with
           pos := .within (n + 1), header := headerShift s.responder.header b, crc := crcStep s.responder.crc b,
           check := 0, verified := false } }) ∧
   (∀ (s : State) (b : Bool) (n : Nat), RiseComes s b → s.engine.phase = .none → s.responder.st = .receiving →
     s.responder.pos = .within n → 37 ≤ n → n < 37 + 8 * frameLen s →
     exec (.sbckRise true) s = .next
       { s with
         line := { s.line with sbck := true, stuckMs := 0, stuckDue := false }
         responder := { s.responder with
           pos := .within (n + 1), intake := bufferShiftIn s.responder.intake ((n - 37) / 8) b,
           crc := crcStep s.responder.crc b } }) ∧
   ∀ s : State, s.responder.delay = none → s.responder.release = none →
     exec (.sbckRise false) s = exec (.sbckRise true) s) ∧
  (∀ (s : State) (b : Bool) (k : Fin 32) (f : Frame) (n : Nat), RiseComes s b → s.engine.phase = .waiting →
     s.engine.sent = none ∨ s.engine.sent = some b → Runs s k f → s.engine.pos = .within n →
     let taken := { s.engine with
       waitTimer := none, pos := .within (n + 1), phase := .high, left := s.cfg.bitDiv.toNat / 2, sent := none }
     let crc := crcStep s.engine.crc b
     let check := shiftIn s.engine.check b
     let takes := fun (e : Engine) => exec (.sbckRise true) s = .next (responderRise b { risen s with engine := e })
     (s.engine.st = .arbitrating → n + 1 < 20 → takes { taken with crc := crc }) ∧
     (s.engine.st = .arbitrating → n + 1 = 20 →
       exec (.sbckRise true) s = .next
         (responderRise b
           { risen s with
             engine := { taken with crc := crc, st := .header, arb := .won }
             store := { s.store with
               slots := tset s.store.slots k { slotOf s k with attempts := (slotOf s k).attempts + 1 } } })) ∧
     (s.engine.st = .header → n + 1 < 35 → takes { taken with crc := crc }) ∧
     (s.engine.st = .header → n + 1 = 35 → takes { taken with crc := crc, st := .claim }) ∧
     (s.engine.st = .claim → n + 1 = 36 → takes { taken with claimFirst := b }) ∧
     (s.engine.st = .claim → n + 1 = 37 →
       let c := claimOfBits s.engine.claimFirst b
       (c = .proceed → f.kind ≠ .probe →
         takes { taken with
           st := .body
           claim := some c
           check := 0
           verified := false
           capture := if f.kind = .read then Vector.replicate 32 0 else s.engine.capture }) ∧
       (c ≠ .proceed ∨ f.kind = .probe → takes { taken with claim := some c })) ∧
     (s.engine.st = .body → 37 ≤ n → n < 37 + 8 * f.length →
       let st := if n + 1 = 37 + 8 * f.length then EngineState.check else .body
       (f.kind = .read →
         takes { taken with crc := crc, capture := bufferShiftIn s.engine.capture ((n - 37) / 8) b, st := st }) ∧
       (f.kind = .write → takes { taken with crc := crc, st := st })) ∧
     (s.engine.st = .check → 37 + 8 * f.length ≤ n →
       (n + 1 < 45 + 8 * f.length →
         (f.kind = .read → takes { taken with check := check }) ∧ (f.kind = .write → takes taken)) ∧
       (n + 1 = 45 + 8 * f.length →
         (f.kind = .read →
           takes { taken with check := check, st := .response, verified := decide (check = s.engine.crc) }) ∧
         (f.kind = .write → takes { taken with st := .response, verified := false }))) ∧
     (s.engine.st = .response → n = 45 + 8 * f.length → takes { taken with respLow := !b }))

/-- SBDT changes while SBCK is low: no condition; a low clears the quiet timer, a rise clears the stuck timer (R5, R19, R21). The model's conventions: log 6, 38. The line state: QUIET at the quiet time gives up what is open, takes a RELEASED engine to IDLE and may complete a choice; a low on a QUIET line makes it ACTIVE (R8, R18, R19, R20, R48, R85). The model's conventions: log 2, 5. -/
def Obligations.LineChangesAndStates : Prop :=
  (∀ s : State, s.line.sbck = false →
     (s.line.sbdt = true →
       exec .sbdtChange s = .next
         { s with line := { s.line with
           sbdt := false, state := if s.line.state = .quiet then .active else s.line.state, quietTb := 0,
           quietPart := 0 } }) ∧
     (s.line.sbdt = false → ownSbdt s = false →
       exec .sbdtChange s = .next { s with line := { s.line with sbdt := true, stuckMs := 0, stuckDue := false } })) ∧
  ((∀ s : State, s.line.sbck = true → s.line.sbdt = true → s.line.state = .active → s.engine.phase = .none →
     s.port.recovery = .none → s.responder.delay = none → s.responder.release = none →
     let q := responderClose
       { s with line := { s.line with
         state := .quiet, quietTb := max s.line.quietTb (16 * 2 ^ s.cfg.quietSel.toNat), quietPart := 0 } }
     exec .lineQuiet s = .next (choose (if s.engine.st = .released then engineToIdle q else q))) ∧
   ∀ s : State, s.line.state = .quiet → s.line.sbck = true → s.line.sbdt = true →
     s.engine.phase = .none ∨ s.engine.phase = .startDue →
     exec (.lineActive .sbck) s = .next
       (responderFall { s with line := { s.line with sbck := false, state := .active, quietTb := 0, quietPart := 0 } }) ∧
     exec (.lineActive .sbdt) s = .next
       (responderStart { s with line := { s.line with sbdt := false, state := .active, quietTb := 0, quietPart := 0 } }))

/-- A stuck line: a RUNNING port goes to FAULT with PORT_FAULT, the engine IDLE and the Responder OFF; a STOPPING port goes to DISABLED with PORT_STOPPED; any other port stays; where the port agreed with its blocks before, the engine is IDLE, the Responder OFF and neither drives a line in every case (R21, R22, R98, R176). The model's conventions: log 4, 29. A PORT_DISABLE and a stuck report that come together on a RUNNING port, in both orders, with the engine IDLE and not: the port ends DISABLED in each, and a request in flight ends BUS_STUCK only where the stuck report is taken first (R177). The model's conventions: log 4. -/
def Obligations.LineStuck : Prop :=
  (∀ s : State, s.line.stuckDue = true → s.line.state ≠ .stuck →
     ∃ t : State, exec .lineStuck s = .next t ∧
       (s.port.state = .running →
         t.port = { s.port with state := .fault } ∧ t.line.state = .stuck ∧ t.responder.st = .off ∧
         t.responder.driveSbck = false ∧ t.responder.driveSbdt = false ∧ t.events.flags.getLsbD 5 = true ∧
         t.engine.st = .idle ∧ (s.engine.st ≠ .idle → t.engine = s.engine.idled)) ∧
       (s.port.state = .stopping → s.engine.st ≠ .idle →
         t.port = { s.port with state := .disabled } ∧ t.line.state = .active ∧ t.engine = s.engine.idled ∧
         t.events.flags.getLsbD 8 = true) ∧
       (s.port.state ≠ .running → s.port.state ≠ .stopping →
         t.port = s.port ∧ t.line.state = .stuck ∧ t.engine = s.engine ∧ t.store = s.store) ∧
       (∀ k f, s.port.state = .running → Runs s k f → s.engine.st.inFrame = true →
         t.store = (attemptEnd k .busStuck (s.engine.arb == .won)
           { s with port := { s.port with state := .fault } }).store) ∧
       (PortConsistent s →
         t.engine.st = .idle ∧ t.engine.driveSbck = false ∧ t.engine.driveSbdt = false ∧ t.responder.st = .off ∧
         t.responder.driveSbck = false ∧ t.responder.driveSbdt = false) ∧
       t.page = s.page ∧ t.pending = s.pending ∧ t.host = s.host ∧ t.cfg = s.cfg ∧ t.edit = s.edit) ∧
  (∀ s : State, WriteOpen 0x004 s → s.port.state = .running → s.line.stuckDue = true → s.line.state ≠ .stuck →
     (∃ t : State, exec .portDisable s = .next t ∧
       (s.engine.st = .idle →
         t.port.state = .disabled ∧ t.host.last = some (.ok, 0) ∧ t.events.flags.getLsbD 8 = true ∧
         ∃ u : State, exec .lineStuck t = .next u ∧ u.port.state = .disabled ∧ u.line.state = .stuck ∧
           u.events = t.events ∧ u.store = s.store) ∧
       (s.engine.st ≠ .idle →
         t.port.state = .stopping ∧ t.host.last = some (.started, 0) ∧
         ∃ u : State, exec .lineStuck t = .next u ∧ u.port.state = .disabled ∧ u.events.flags.getLsbD 8 = true ∧
           ∀ k f, Runs s k f → s.engine.st.inFrame = true →
             u.store = (attemptEnd k .busStuck (s.engine.arb == .won)
               { s with port := { s.port with state := .stopping } }).store)) ∧
     ∃ t : State, exec .lineStuck s = .next t ∧ t.port.state = .fault ∧ t.events.flags.getLsbD 5 = true ∧
       (s.engine.st = .idle → t.store = s.store) ∧
       (∀ k f, Runs s k f → s.engine.st.inFrame = true →
         t.store = (attemptEnd k .busStuck (s.engine.arb == .won)
           { s with port := { s.port with state := .fault } }).store) ∧
       ∃ u : State, exec .portDisable t = .next u ∧ u.port.state = .disabled ∧ u.host.last = some (.ok, 0) ∧
         u.events = t.events ∧ u.store = t.store)

/-- The check: a register that takes its own 8 bits, most significant first, is 0, so a check that is taken as it was sent verifies, and the 35 header bits of a frame give its fields back at the follower (R9, R10, R14, R15, R80, R133). -/
def Obligations.CheckAndHeaderRoundTrip : Prop :=
  (∀ r : Byte, (List.range 8).foldl (fun c j => crcStep c (byteBit r j)) r = 0) ∧
  (∀ r : Byte, (List.range 8).foldl (fun c j => shiftIn c (byteBit r j)) 0 = r) ∧
  ∀ (prio : BitVec 4) (own : Byte) (f : Frame), (f.kind ≠ .probe → 1 ≤ f.length ∧ f.length ≤ 32) →
    let sent := headerOf prio own f
    let h := (List.range 35).foldl (fun c j => headerShift c (sent.getMsbD j)) 0
    headerPrio h = prio ∧ headerDest h = f.dest ∧ headerSource h = own ∧ headerKind h = some f.kind ∧
      headerOffset h = f.offset.toNat ∧ (f.kind ≠ .probe → headerLength h = f.length)

/-! ### The Responder, windows and page memory -/

/-- Giving a frame up: the Responder's lines released and its buffers cleared, an in-frame window's frame ended with a PENDING hold granted, the reservation given back and any stall over; page memory and the notify queue stay (R144, R146, R152, R161, R162). The Responder enters OFF: what it holds of a frame is given up, the position is BETWEEN and the header decode empty (R145). -/
def Obligations.FramesGivenUp : Prop :=
  (∀ s : State,
     giveUpFrame s =
       { s with
         windows := tmap (fun w =>
           if w.inFrame then { w with inFrame := false, hold := if w.hold = .pending then .held else w.hold } else w)
           s.windows
         events := { s.events with
           flags :=
             if ∃ i, (windowOf s i).inFrame = true ∧ (windowOf s i).hold = .pending then s.events.flags ||| 0x004
             else s.events.flags }
         responder := { s.responder with
           sendBuf := Vector.replicate 32 0, intake := Vector.replicate 32 0, window := none, code := .none,
           verified := false, driveSbck := false, driveSbdt := false, delay := none, want := false, commits := false,
           release := none }
         hold := { s.hold with
           stallTimer := none, stallWindow := none, reasonHeld := false, reasonFull := false, reservation := false } }) ∧
  (∀ s : State, responderOff s =
     { giveUpFrame s with responder := { (giveUpFrame s).responder with
       st := .off, pos := .between, high := .plain, header := 0, goesOn := false } })

/-- A Start or a Stop at the Responder, a QUIET line and a Responder that is OFF included: from BETWEEN, and from BOUNDARY in the high phase after the last bit, a Start opens a frame and a Stop leaves BETWEEN; where a bit was expected it breaks the frame first (R5, R8, R18, R132, R144); a Responder that is OFF follows nothing (R131). The model's conventions: log 11, 39. -/
def Obligations.ConditionsAtResponder : Prop :=
  ∀ s : State, s.engine.phase = .none ∨ s.engine.phase = .startDue → s.port.recovery = .none →
    let low := { s with line := { s.line with
      sbdt := false, state := if s.line.state = .quiet then .active else s.line.state, quietTb := 0, quietPart := 0 } }
    let high := { s with line := { s.line with sbdt := true, stuckMs := 0, stuckDue := false } }
    let opened := fun (t : State) => { t with responder := { t.responder with
      st := .decoding, pos := .within 0, high := .plain, header := 0, crc := 0xFF, goesOn := false } }
    let closed := fun (t : State) => { t with responder := { t.responder with
      st := .listening, pos := .between, high := .plain } }
    (s.line.sbck = true → s.line.sbdt = true →
      (s.responder.st = .off → exec .busStart s = .next low) ∧
      (s.responder.st ≠ .off →
        (s.responder.pos = .between ∨ (s.responder.pos = .boundary ∧ s.responder.high ≠ .lastBit) →
          exec .busStart s = .next (opened low)) ∧
        (∀ n, s.responder.pos = .within n ∨ (s.responder.pos = .boundary ∧ s.responder.high = .lastBit) →
          exec .busStart s = .next (opened (giveUpFrame low))))) ∧
    (s.line.sbck = true → s.line.sbdt = false → ownSbdt s = false → s.line.state ≠ .quiet →
      (s.responder.st = .off ∨ s.responder.pos = .between → exec .busStop s = .next high) ∧
      (s.responder.st ≠ .off →
        (s.responder.pos = .boundary → s.responder.high ≠ .lastBit → exec .busStop s = .next (closed high)) ∧
        (∀ n, s.responder.pos = .within n ∨ (s.responder.pos = .boundary ∧ s.responder.high = .lastBit) →
          exec .busStop s = .next (closed (giveUpFrame high)))))

/-- Bit 35 of a frame that the engine does not drive: the address-clash check, the match, and the first row of the claim table (R133 to R136, R138, R139, R141, R155 to R157, R162). The model's conventions: log 8, 9. -/
def Obligations.ClaimDecision : Prop :=
  ∀ (s : State) (b : Bool),
    let u := responderCountEnd s
    let h := headerShift u.responder.header b
    let v := { u with
      line := { u.line with sbck := true, stuckMs := 0, stuckDue := false }
      responder := { u.responder with
        pos := .within 35, header := h, crc := crcStep u.responder.crc b, check := 0, verified := false }
      events := { u.events with
        flags := if headerSource h = u.cfg.ownAddr then u.events.flags ||| 0x200 else u.events.flags } }
    let valid := headerDest h ≠ 0 ∧ headerDest h ≠ 255 ∧ headerSource h ≠ 0 ∧ headerSource h ≠ 255
    RiseComes u b → u.engine.phase = .none → u.engine.st = .idle ∨ u.engine.st = .released →
    u.responder.st = .decoding → u.responder.pos = .within 34 → WindowsDistinct u →
    (¬ valid ∨ (∀ i, (windowOf u i).enabled = true → (windowOf u i).node ≠ headerDest h) →
      exec .claimDecision s = .next { v with responder := { v.responder with st := .passive, window := none } }) ∧
    ∀ i, valid → (windowOf u i).enabled = true → (windowOf u i).node = headerDest h →
      let w := windowOf u i
      let held := w.hold = .held
      let full := headerKind h = some .write ∧ w.notify = true ∧ notifyLoad u.hold = 16
      let claims := fun (c : ClaimCode) (t : State) =>
        { t with responder := { t.responder with st := .claiming, window := some i, code := c } }
      let shown := { u.hold with reasonHeld := decide held, reasonFull := decide full }
      (headerKind h = none → exec .claimDecision s = .next (claims .refuse v)) ∧
      (headerKind h = some .probe → exec .claimDecision s = .next (claims .proceed v)) ∧
      (headerKind h = some .read ∨ headerKind h = some .write →
        let refused := (headerKind h = some .read ∧ w.access = .writeOnly) ∨
          (headerKind h = some .write ∧ w.access = .readOnly) ∨
          w.size.toNat < headerOffset h + headerLength h
        (refused → exec .claimDecision s = .next (claims .refuse v)) ∧
        (¬ refused → held ∨ full → w.contention = .answerBusy →
          exec .claimDecision s = .next (claims .busy { v with hold := shown })) ∧
        (¬ refused → held ∨ full → w.contention = .stall →
          exec .claimDecision s = .next
            { v with
              responder := { v.responder with st := .stalling, window := some i }
              hold := { shown with stallTimer := some w.stallMs.toNat, stallWindow := some i }
              events := { v.events with flags := v.events.flags ||| 0x008 } }) ∧
        (¬ refused → ¬ held → ¬ full → headerKind h = some .read →
          exec .claimDecision s = .next
            (claims .proceed
              { v with
                windows := tset u.windows i { w with inFrame := true }
                responder := { v.responder with
                  sendBuf := toBuffer 32 (u.page.readBytes (w.base.toNat + headerOffset h) (headerLength h)) } })) ∧
        (¬ refused → ¬ held → ¬ full → headerKind h = some .write →
          exec .claimDecision s = .next
            (claims .proceed
              { v with
                windows := tset u.windows i { w with inFrame := true }
                hold := { u.hold with reservation := u.hold.reservation || w.notify }
                responder := { v.responder with intake := Vector.replicate 32 0 } })))

/-- Bit 37 at a Responder that drove a claim: a READ or WRITE that it claimed PROCEED goes on, one that another node claimed is followed in PASSIVE, any other frame is at its end; the reasons shown go (R12, R137, R156). A frame whose window is in-frame ends by discard where the line does not show its PROCEED (the model's choice, log 35). The model's conventions: log 8, 11. -/
def Obligations.ResponderClaim : Prop :=
  ∀ (s : State) (b : Bool),
    let u := responderCountEnd s
    let line := claimOfBits u.responder.claimFirst b
    let body := headerKind u.responder.header = some .read ∨ headerKind u.responder.header = some .write
    let v := fun (r : Responder) =>
      { u with
        line := { u.line with sbck := true, stuckMs := 0, stuckDue := false }
        hold := { u.hold with reasonHeld := false, reasonFull := false }
        responder := { r with pos := .within 37, goesOn := true } }
    let atEnd := { u with
      line := { u.line with sbck := true, stuckMs := 0, stuckDue := false }
      hold := { u.hold with reasonHeld := false, reasonFull := false }
      responder := { u.responder with
        st := .listening, pos := .boundary, high := .lastBit, goesOn := false, window := none } }
    RiseComes u b → u.engine.phase = .none → u.responder.st = .claiming → u.responder.pos = .within 36 →
    (line = .proceed → u.responder.code = .proceed → headerKind u.responder.header = some .read →
      exec .responderClaim s = .next (v { u.responder with st := .sending })) ∧
    (line = .proceed → u.responder.code = .proceed → headerKind u.responder.header = some .write →
      exec .responderClaim s = .next (v { u.responder with st := .receiving })) ∧
    (line = .proceed → u.responder.code ≠ .proceed → body →
      exec .responderClaim s = .next (v { u.responder with st := .passive, window := none })) ∧
    (line ≠ .proceed ∨ ¬ body →
      (∀ i, u.responder.window = some i → (windowOf u i).inFrame = false) →
      exec .responderClaim s = .next atEnd) ∧
    ∀ i, line ≠ .proceed ∨ ¬ body → u.responder.window = some i → (windowOf u i).inFrame = true →
      let w := windowOf u i
      exec .responderClaim s = .next
        { atEnd with
          hold := { atEnd.hold with reservation := false }
          responder := { atEnd.responder with
            sendBuf := Vector.replicate 32 0, intake := Vector.replicate 32 0, verified := false }
          windows := tset u.windows i { w with inFrame := false, hold := if w.hold = .pending then .held else w.hold }
          events := { u.events with
            flags := if w.hold = .pending then u.events.flags ||| 0x004 else u.events.flags } }

/-- The commit, in the event that drives ACCEPT, whether SBDT read high or low before it: the intake's bytes at base + offset and no other byte of page memory; a notify window's reservation becomes the last record, with the next sequence number and NOTIFY; the window's frame ends with a PENDING hold granted (R142, R146, R147, R152, R163, R164). The intake is then cleared, as the example of section 7.11 has it (log 18). -/
def Obligations.Commit : Prop :=
  ∀ (s : State) (i : Fin 8) (d : Nat),
    let w := windowOf s i
    let h := s.responder.header
    let start := w.base.toNat + headerOffset h
    let posts := w.notify = true ∧ s.hold.reservation = true
    s.responder.delay = some d → s.responder.commits = true → s.responder.want = true → s.responder.release = none →
    s.responder.window = some i → s.line.sbck = false → w.inFrame = true → s.page.wf = true →
    start + headerLength h ≤ 1024 →
    ∃ m : Memory,
      exec .commit s = .next
        { s with
          page := m
          line :=
            if s.line.sbdt then
              { s.line with
                sbdt := false, state := if s.line.state = .quiet then .active else s.line.state, quietTb := 0,
                quietPart := 0 }
            else s.line
          responder := { s.responder with
            delay := none, want := false, commits := false, driveSbdt := true, intake := Vector.replicate 32 0 }
          windows := tset s.windows i { w with inFrame := false, hold := if w.hold = .pending then .held else w.hold }
          hold :=
            if posts then
              { s.hold with
                queue := s.hold.queue ++
                  [{ window := i, offset := BitVec.ofNat 8 (headerOffset h), length := headerLength h,
                     source := headerSource h, sequence := s.hold.sequence }]
                reservation := false
                sequence := s.hold.sequence + 1 }
            else s.hold
          events := { s.events with
            flags := s.events.flags ||| (if posts then 0x002 else 0) ||| (if w.hold = .pending then 0x004 else 0) } } ∧
      m.wf = true ∧
      ∀ a, m.read a =
        if start ≤ a ∧ a < start + headerLength h then bufferByte s.responder.intake (a - start) else s.page.read a

/-- The response slot of a READ taken: the window's frame ends, a PENDING hold is granted, and nothing else of the remote side changes, whatever the answer (R140, R146, R152). The model's conventions: log 8. A WRITE whose check fails at its last bit: the intake is cleared, the reservation given back, the window's frame ends; page memory and the notify queue stay, and ACCEPT will not be driven (R15, R143, R146, R152). The model's conventions: log 8, 9. -/
def Obligations.ReadSlotAndWriteCheckFail : Prop :=
  (∀ (s : State) (b : Bool) (i : Fin 8),
     let u := responderCountEnd s
     let w := windowOf u i
     RiseComes u b → u.engine.phase = .none → u.responder.st = .confirming →
     u.responder.pos = .within (45 + 8 * frameLen u) → frameKind u = some .read → u.responder.window = some i →
     w.inFrame = true →
     exec .readResponseSlot s = .next
       { u with
         line := { u.line with sbck := true, stuckMs := 0, stuckDue := false }
         responder := { u.responder with pos := .within (46 + 8 * frameLen u) }
         windows := tset u.windows i { w with inFrame := false, hold := if w.hold = .pending then .held else w.hold }
         events := { u.events with
           flags := if w.hold = .pending then u.events.flags ||| 0x004 else u.events.flags } }) ∧
  (∀ (s : State) (b : Bool) (i : Fin 8),
     let u := responderCountEnd s
     let w := windowOf u i
     RiseComes u b → u.engine.phase = .none → u.responder.st = .receiving →
     u.responder.pos = .within (44 + 8 * frameLen u) → shiftIn u.responder.check b ≠ u.responder.crc →
     u.responder.window = some i → w.inFrame = true →
     exec .writeCheckFail s = .next
       { u with
         line := { u.line with sbck := true, stuckMs := 0, stuckDue := false }
         responder := { u.responder with
           st := .confirming, pos := .within (45 + 8 * frameLen u), check := shiftIn u.responder.check b,
           verified := false, intake := Vector.replicate 32 0 }
         hold := { u.hold with reservation := false }
         windows := tset u.windows i { w with inFrame := false, hold := if w.hold = .pending then .held else w.hold }
         events := { u.events with
           flags := if w.hold = .pending then u.events.flags ||| 0x004 else u.events.flags } })

/-- WINDOW_WRITE, WINDOW_ENABLE and WINDOW_DISABLE by their cases (R126 to R129, R203). The edit area holds no enable, so WINDOW_WRITE leaves it (log 28). -/
def Obligations.WindowCommands : Prop :=
  ∀ (s : State) (arg : BitVec 16), WriteOpen 0x004 s →
    let refused := fun (c : ResultCode) (v : Byte) => Host.Outcome.next (ρ := Refusal) (φ := Fault)
      { s with host := posted c v s.host }
    (8 ≤ arg.toNat →
      exec (.windowWrite arg) s = refused .badWindow 0 ∧ exec (.windowEnable arg) s = refused .badWindow 0 ∧
      exec (.windowDisable arg) s = refused .badWindow 0) ∧
    ∀ i : Fin 8, arg.toNat = i.val →
      let w := windowOf s i
      let v := BitVec.ofNat 8 i.val
      (w.enabled = true →
        exec (.windowWrite arg) s = refused .windowEnabled v ∧ exec (.windowEnable arg) s = refused .ok v) ∧
      (w.enabled = false →
        exec (.windowDisable arg) s = refused .ok v ∧
        exec (.windowWrite arg) s = .next
          { s with
            host := posted .ok v s.host
            windows := tset s.windows i
              { w with
                base := s.edit.window0.extractLsb' 0 10
                size := s.edit.window0.extractLsb' 16 9
                node := s.edit.window1.extractLsb' 0 8
                stallMs := s.edit.window1.extractLsb' 8 8
                access := accessOfBits (s.edit.window1.extractLsb' 16 2)
                notify := s.edit.window1.getLsbD 20
                contention := if s.edit.window1.getLsbD 21 then .stall else .answerBusy } } ∧
        (let valid := w.node ≠ 0 ∧ w.node ≠ 255 ∧ 1 ≤ w.size.toNat ∧ w.size.toNat ≤ 256 ∧
          w.base.toNat + w.size.toNat ≤ 1024 ∧ w.access ≠ .code3 ∧ (w.contention = .stall → w.stallMs ≠ 0)
        (¬ valid → exec (.windowEnable arg) s = refused .badWindow v) ∧
        (∀ j, valid → (windowOf s j).enabled = true → (windowOf s j).node = w.node →
          (∀ l, l < j → (windowOf s l).enabled = true → (windowOf s l).node ≠ w.node) →
          exec (.windowEnable arg) s = refused .duplicate (BitVec.ofNat 8 j.val)) ∧
        (valid → (∀ j, (windowOf s j).enabled = true → (windowOf s j).node ≠ w.node) →
          exec (.windowEnable arg) s = .next
            { s with host := posted .ok v s.host, windows := tset s.windows i { w with enabled := true } }))) ∧
      (w.enabled = true →
        let active := w.inFrame = true ∨ (s.responder.st = .stalling ∧ s.hold.stallWindow = some i)
        (active → exec (.windowDisable arg) s = refused .windowActive v) ∧
        (¬ active → exec (.windowDisable arg) s = .next
          { s with
            host := posted .ok v s.host
            windows := tset s.windows i { w with enabled := false, hold := .open } }))

/-! ### Holds, stalls and the notify queue -/

/-- HOLD_WINDOW, RELEASE_WINDOW and POP_NOTIFY: the answers that change nothing, a stall running or not, and the effects while no stall runs (R151, R153, R165). -/
def Obligations.HoldReleasePop : Prop :=
  ∀ (s : State) (arg : BitVec 16), WriteOpen 0x004 s →
    let answered := fun (c : ResultCode) (v : Byte) => Host.Outcome.next (ρ := Refusal) (φ := Fault)
      { s with host := posted c v s.host }
    let holds := fun (c : ResultCode) (i : Fin 8) (h : HoldState) => Host.Outcome.next (ρ := Refusal) (φ := Fault)
      { s with
        host := posted c (BitVec.ofNat 8 i.val) s.host
        windows := tset s.windows i { windowOf s i with hold := h } }
    (8 ≤ arg.toNat →
      exec (.holdWindow arg) s = answered .badWindow 0 ∧ exec (.releaseWindow arg) s = answered .badWindow 0) ∧
    (∀ i : Fin 8, arg.toNat = i.val →
      let w := windowOf s i
      let v := BitVec.ofNat 8 i.val
      (w.enabled = false → exec (.holdWindow arg) s = answered .badWindow v) ∧
      (w.enabled = true →
        (s.responder.st ≠ .stalling → w.hold = .open → w.inFrame = false →
          exec (.holdWindow arg) s = holds .held i .held) ∧
        (s.responder.st ≠ .stalling → w.hold = .open → w.inFrame = true →
          exec (.holdWindow arg) s = holds .pending i .pending) ∧
        (w.hold = .pending → exec (.holdWindow arg) s = answered .pending v) ∧
        (w.hold = .held → exec (.holdWindow arg) s = answered .held v)) ∧
      (w.hold = .open → exec (.releaseWindow arg) s = answered .notHeld v) ∧
      (s.responder.st ≠ .stalling → w.hold ≠ .open → exec (.releaseWindow arg) s = holds .ok i .open)) ∧
    (s.hold.queue = [] → exec .popNotify s = answered .empty 0) ∧
    ∀ r rest, s.responder.st ≠ .stalling → s.hold.queue = r :: rest →
      exec .popNotify s = .next { s with host := posted .ok r.sequence s.host, hold := { s.hold with queue := rest } }

/-- A stall ends: with PROCEED in the event of the RELEASE_WINDOW that takes its last reason, the snapshot of a READ taken or the intake of a WRITE begun with its reservation, and the window in-frame; with BUSY at the expiry of its timer. With SBCK held, SBDT is low at once and SBCK is released 10 REFCLK periods later; with SBCK not held yet no line is driven. A HOLD_WINDOW, and a RELEASE_WINDOW that leaves NOTIFY_FULL, change its reasons and do not end it (R141, R151, R153, R157 to R160, R162). The model's conventions: log 4, 6. POP_NOTIFY during a stall: where it takes the last reason, the stall of the WRITE ends with PROCEED and takes the place that the pop freed, SBCK held or not; where the window is HELD, NOTIFY_FULL goes and the stall stays (R158, R160, R162, R165). HOLD_WINDOW and RELEASE_WINDOW of any window, and POP_NOTIFY, during a stall: after the command's own effect the stall's reasons are found again; with one left the stall goes on and shows them; with none left it ends with PROCEED in that event, the snapshot of a READ taken from page memory as it stands, the intake of a WRITE begun with its reservation (R151, R153, R158, R165). -/
def Obligations.StallsEnd : Prop :=
  (∀ (s : State) (arg : BitVec 16) (i : Fin 8), s.responder.st = .stalling → s.hold.stallWindow = some i →
     let w := windowOf s i
     let stallOver := { s.hold with stallTimer := none, stallWindow := none, reasonHeld := false, reasonFull := false }
     let line := if s.responder.driveSbck then
         { s.line with
           sbdt := false, state := if s.line.state = .quiet then .active else s.line.state, quietTb := 0, quietPart := 0 }
       else s.line
     let claims := fun (k : ClaimCode) (r : Responder) =>
       if s.responder.driveSbck then { r with st := .claiming, code := k, driveSbdt := true, release := some 10 }
       else { r with st := .claiming, code := k }
     let full := frameKind s = some .write ∧ w.notify = true ∧ notifyLoad s.hold = 16
     let v := BitVec.ofNat 8 i.val
     (s.hold.stallTimer = some 0 →
       exec .stallExpiry s = .next { s with hold := stallOver, line := line, responder := claims .busy s.responder }) ∧
     (WriteOpen 0x004 s → arg.toNat = i.val → w.hold = .held →
       (frameKind s = some .read →
         exec (.releaseWindow arg) s = .next
           { s with
             host := posted .ok v s.host
             hold := stallOver
             line := line
             windows := tset s.windows i { w with hold := .open, inFrame := true }
             responder := claims .proceed { s.responder with
               sendBuf := toBuffer 32
                 (s.page.readBytes (w.base.toNat + headerOffset s.responder.header) (frameLen s)) } }) ∧
       (frameKind s = some .write → ¬ full →
         exec (.releaseWindow arg) s = .next
           { s with
             host := posted .ok v s.host
             hold := { stallOver with reservation := s.hold.reservation || w.notify }
             line := line
             windows := tset s.windows i { w with hold := .open, inFrame := true }
             responder := claims .proceed { s.responder with intake := Vector.replicate 32 0 } }) ∧
       (full →
         exec (.releaseWindow arg) s = .next
           { s with
             host := posted .ok v s.host
             hold := { s.hold with reasonHeld := false, reasonFull := true }
             windows := tset s.windows i { w with hold := .open } })) ∧
     (WriteOpen 0x004 s → arg.toNat = i.val → w.enabled = true → w.hold = .open → w.inFrame = false →
       exec (.holdWindow arg) s = .next
         { s with
           host := posted .held v s.host
           windows := tset s.windows i { w with hold := .held }
           hold := { s.hold with reasonHeld := true, reasonFull := decide full } })) ∧
  (∀ (s : State) (i : Fin 8) (r : NotifyRecord) (rest : List NotifyRecord), WriteOpen 0x004 s →
     s.responder.st = .stalling → s.hold.stallWindow = some i → s.hold.queue = r :: rest →
     s.hold.queue.length = 16 → s.hold.reservation = false → (windowOf s i).notify = true → frameKind s = some .write →
     let proceeds := { s.responder with st := .claiming, code := .proceed, intake := Vector.replicate 32 0 }
     ((windowOf s i).hold ≠ .held →
       exec .popNotify s = .next
         { s with
           host := posted .ok r.sequence s.host
           hold := { s.hold with
             queue := rest, reservation := true, stallTimer := none, stallWindow := none, reasonHeld := false,
             reasonFull := false }
           windows := tset s.windows i { windowOf s i with inFrame := true }
           line := if s.responder.driveSbck then
               { s.line with
                 sbdt := false, state := if s.line.state = .quiet then .active else s.line.state, quietTb := 0,
                 quietPart := 0 }
             else s.line
           responder :=
             if s.responder.driveSbck then { proceeds with driveSbdt := true, release := some 10 } else proceeds }) ∧
     ((windowOf s i).hold = .held →
       exec .popNotify s = .next
         { s with
           host := posted .ok r.sequence s.host
           hold := { s.hold with queue := rest, reasonHeld := true, reasonFull := false } })) ∧
  (∀ (s : State) (arg : BitVec 16) (i : Fin 8), WriteOpen 0x004 s → s.responder.st = .stalling →
     s.hold.stallWindow = some i →
     let foundAgain := fun (c : Instr) (t : State) =>
       let w := windowOf t i
       let full := frameKind s = some .write ∧ w.notify = true ∧ notifyLoad t.hold = 16
       let proceeds := fun (reserved : Bool) (r : Responder) => exec c s = .next
         { t with
           windows := tset t.windows i { w with inFrame := true }
           hold := { t.hold with
             stallTimer := none, stallWindow := none, reasonHeld := false, reasonFull := false
             reservation := s.hold.reservation || reserved }
           line := if s.responder.driveSbck then
               { s.line with
                 sbdt := false, state := if s.line.state = .quiet then .active else s.line.state, quietTb := 0,
                 quietPart := 0 }
             else s.line
           responder :=
             if s.responder.driveSbck then
               { r with st := .claiming, code := .proceed, driveSbdt := true, release := some 10 }
             else { r with st := .claiming, code := .proceed } }
       (w.hold = .held ∨ full →
         exec c s = .next
           { t with hold := { t.hold with reasonHeld := decide (w.hold = .held), reasonFull := decide full } }) ∧
       (w.hold ≠ .held → ¬ full →
         (frameKind s = some .read →
           proceeds false { s.responder with
             sendBuf := toBuffer 32 (s.page.readBytes (w.base.toNat + headerOffset s.responder.header) (frameLen s)) }) ∧
         (frameKind s = some .write → proceeds w.notify { s.responder with intake := Vector.replicate 32 0 }))
     (∀ j : Fin 8, arg.toNat = j.val →
       let x := windowOf s j
       let answered := fun (k : ResultCode) (h : HoldState) =>
         { s with
           host := posted k (BitVec.ofNat 8 j.val) s.host
           windows := tset s.windows j { x with hold := h } }
       (x.enabled = true → x.hold = .open → x.inFrame = false → foundAgain (.holdWindow arg) (answered .held .held)) ∧
       (x.enabled = true → x.hold = .open → x.inFrame = true →
         foundAgain (.holdWindow arg) (answered .pending .pending)) ∧
       (x.hold ≠ .open → foundAgain (.releaseWindow arg) (answered .ok .open))) ∧
     ∀ r rest, s.hold.queue = r :: rest →
       foundAgain .popNotify
         { s with host := posted .ok r.sequence s.host, hold := { s.hold with queue := rest } })

/-! ### The port -/

/-- PORT_ENABLE, PORT_DISABLE and RECOVER by port state, configuration, engine and lines (R18, R131, R145, R170, R173, R174, R178). The model's conventions: log 6; that PORT_DISABLE leaves a due stuck report due is log 4, the midpoint that RECOVER keeps for its Stop phase log 32. -/
def Obligations.PortCommands : Prop :=
  ∀ s : State, WriteOpen 0x004 s →
    let answered := fun (c : ResultCode) => Host.Outcome.next (ρ := Refusal) (φ := Fault)
      { s with host := posted c 0 s.host }
    let started := { s.line with state := .active, quietTb := 0, quietPart := 0, stuckMs := 0, stuckDue := false }
    let valid := s.cfg.ownAddr ≠ 0 ∧ s.cfg.ownAddr ≠ 255 ∧ 40 ≤ s.cfg.bitDiv.toNat ∧ s.cfg.bitDiv.toNat ≤ 1600
    (s.port.state ≠ .disabled → exec .portEnable s = answered .portState) ∧
    (s.port.state = .disabled → ¬ valid → exec .portEnable s = answered .portConfig) ∧
    (s.port.state = .disabled → valid →
      exec .portEnable s = .next
        { s with
          host := posted .ok 0 s.host
          port := { s.port with state := .running }
          line := started
          responder := { s.responder with st := .listening, pos := .between, high := .plain } }) ∧
    (s.port.state = .running → s.engine.st = .idle →
      exec .portDisable s = .next
        (let t := responderOff
           { s with
             port := { s.port with state := .disabled }, line := { started with stuckDue := s.line.stuckDue } }
         { t with host := posted .ok 0 s.host, events := { t.events with flags := t.events.flags ||| 0x100 } })) ∧
    (s.port.state = .running → s.engine.st ≠ .idle →
      exec .portDisable s = .next
        { responderOff { s with port := { s.port with state := .stopping } } with host := posted .started 0 s.host }) ∧
    (s.port.state = .fault →
      exec .portDisable s = .next
        { s with host := posted .ok 0 s.host, port := { s.port with state := .disabled }, line := started } ∧
      (s.line.sbck = false →
        exec .recover s = .next
          { s with
            host := posted .started 0 s.host
            port := { s.port with
              pulses := 0, recovery := .none, left := 0, taken := false, driveSbck := false, driveSbdt := false }
            events := { s.events with flags := s.events.flags ||| 0x080 } }) ∧
      (s.line.sbck = true →
        exec .recover s = .next
          { s with
            host := posted .started 0 s.host
            port := { s.port with
              state := .recovering, pulses := 0, driveSbck := true
              recovery := if s.line.sbdt then .stopLow else .pulseLow
              left := if s.line.sbdt then lowLen s / 2 else lowLen s }
            line := { s.line with
              sbck := false, state := if s.line.state = .quiet then .active else s.line.state, quietTb := 0,
              quietPart := 0 } })) ∧
    (s.port.state = .disabled ∨ s.port.state = .stopping ∨ s.port.state = .recovering →
      exec .portDisable s = answered .portState) ∧
    (s.port.state ≠ .fault → exec .recover s = answered .portState)

/-- The recovery sequence in its steps: a pulse's low phase ends with SBCK released and the pulse count raised; its rise takes SBDT; SBDT low and fewer than 16 pulses is followed by the next pulse, SBDT high by the Stop phase, which pulls SBDT low at the midpoint, releases SBCK at the end of the low phase and SBDT half a high-phase length after the rise. A Stop on the bus makes the port RUNNING with RECOVERY_DONE; a line that does not rise in its time, or a 16th pulse with SBDT low, makes it FAULT with RECOVERY_FAILED (R18, R131, R179, R180). The model's conventions: log 6, 20, 32. -/
def Obligations.RecoverySequence : Prop :=
  ∀ s : State, s.port.state = .recovering → s.responder.delay = none → s.responder.release = none →
    let failed := Host.Outcome.next (ρ := Refusal) (φ := Fault)
      { s with
        port := { s.port with
          state := .fault, recovery := .none, left := 0, taken := false, driveSbck := false, driveSbdt := false }
        events := { s.events with flags := s.events.flags ||| 0x080 } }
    let next := fun (p : RecoveryPhase) (n : Nat) => Host.Outcome.next (ρ := Refusal) (φ := Fault)
      { s with
        port := { s.port with recovery := p, left := n, driveSbck := true }
        line := { s.line with
          sbck := false, state := if s.line.state = .quiet then .active else s.line.state, quietTb := 0, quietPart := 0 } }
    (s.port.recovery = .pulseHigh → s.port.taken = true → exec .recoveryPulse s = next .stopLow (lowLen s / 2)) ∧
    (s.port.recovery = .pulseHigh → s.port.taken = false → s.port.pulses < 16 →
      exec .recoveryPulse s = next .pulseLow (lowLen s)) ∧
    (s.port.recovery = .pulseHigh → s.port.taken = false → 16 ≤ s.port.pulses → exec .recoveryFailed s = failed) ∧
    (s.port.recovery = .pulseRise ∨ s.port.recovery = .stopRise ∨ s.port.recovery = .stopEnd →
      exec .recoveryFailed s = failed ∧ exec (.phaseCountEnd .controller) s = failed) ∧
    (s.port.recovery = .pulseLow →
      exec (.phaseCountEnd .controller) s = .next
        { s with port := { s.port with
          recovery := .pulseRise, left := lowLen s, driveSbck := false, pulses := s.port.pulses + 1 } }) ∧
    (s.port.recovery = .stopLow →
      exec (.phaseCountEnd .controller) s = .next
        { s with
          port := { s.port with recovery := .stopData, left := lowLen s - lowLen s / 2, driveSbdt := true }
          line := { s.line with
            sbdt := false, state := if s.line.state = .quiet then .active else s.line.state, quietTb := 0,
            quietPart := 0 } }) ∧
    (s.port.recovery = .stopData →
      exec (.phaseCountEnd .controller) s = .next
        { s with port := { s.port with recovery := .stopRise, left := lowLen s, driveSbck := false } }) ∧
    (s.port.recovery = .stopHalf →
      exec (.phaseCountEnd .controller) s = .next
        { s with port := { s.port with
          recovery := .stopEnd, left := s.cfg.bitDiv.toNat / 2 / 2, driveSbdt := false } }) ∧
    (s.line.sbck = false → ownSbck s = false → s.engine.phase = .none → s.responder.st = .off →
      s.responder.pos = .between →
      let rises := fun (p : Port) => Host.Outcome.next (ρ := Refusal) (φ := Fault)
        { s with port := p, line := { s.line with sbck := true, stuckMs := 0, stuckDue := false } }
      (s.port.recovery = .pulseRise →
        exec (.sbckRise true) s =
          rises { s.port with recovery := .pulseHigh, left := s.cfg.bitDiv.toNat / 2, taken := s.line.sbdt }) ∧
      (s.port.recovery = .stopRise →
        exec (.sbckRise true) s = rises { s.port with recovery := .stopHalf, left := s.cfg.bitDiv.toNat / 2 / 2 })) ∧
    (s.port.recovery = .stopEnd → s.line.sbck = true → s.line.sbdt = false → ownSbdt s = false →
      s.engine.phase = .none → s.responder.st = .off →
      exec .recoveryDone s = .next
        { s with
          port := { s.port with
            state := .running, recovery := .none, left := 0, taken := false, driveSbck := false, driveSbdt := false }
          line := { s.line with
            sbdt := true, state := .active, quietTb := 0, quietPart := 0, stuckMs := 0, stuckDue := false }
          responder := { s.responder with st := .listening, pos := .between, high := .plain }
          events := { s.events with flags := s.events.flags ||| 0x040 } })

/-! ### Invariants -/

/-- Every invariant of this part holds right after reset. -/
def Obligations.InvariantsAtReset : Prop :=
  RequestsConsistent State.reset ∧ RefsExact State.reset ∧ TagsDistinct State.reset ∧ SuspendedUnnamed State.reset ∧
    NodesDistinct State.reset ∧ WindowsDistinct State.reset ∧ HoldsLegal State.reset ∧ FrameHeld State.reset ∧
    NotifyFits State.reset ∧ PageCanonical State.reset ∧ PortConsistent State.reset

/-- Where slots, queues, records and engine agree, at most one slot is ACTIVE, and the three queue counts, the completion count and the free slot count add up to 32 (R47, R194). -/
def Obligations.CountsAddToThirtyTwo : Prop :=
  ∀ s : State, RequestsConsistent s →
    (∀ j k, (slotOf s j).state = .active → (slotOf s k).state = .active → j = k) ∧
    s.sched.exp.length + s.sched.std.length + s.sched.bkg.length + s.completions.length + freeSlots s = 32

/-- Every step keeps slots, queues, records and engine in agreement (R23, R40, R47, R78, R114). -/
def Obligations.RequestsStayConsistent : Prop :=
  ∀ s t : State, RequestsConsistent s → step s = .next t → RequestsConsistent t

/-- Every step keeps each entry's refs the number of WAITING or ACTIVE slots that name it, and an entry for every node that such a slot names (R72). -/
def Obligations.RefsStayExact : Prop :=
  ∀ s t : State, RequestsConsistent s → NodesDistinct s → RefsExact s → step s = .next t → RefsExact t

/-- Every step keeps the tags of the live slots distinct and none 0 (R29). -/
def Obligations.TagsStayDistinct : Prop :=
  ∀ s t : State, RequestsConsistent s → TagsDistinct s → step s = .next t → TagsDistinct t

/-- Every step leaves no WAITING or ACTIVE slot that names a SUSPENDED node (R70). -/
def Obligations.SuspendedStaysUnnamed : Prop :=
  ∀ s t : State, RequestsConsistent s → NodesDistinct s → SuspendedUnnamed s → step s = .next t → SuspendedUnnamed t

/-- Every step keeps the addresses of the entries distinct, and none 0 or 255 (R61, R72). Every step keeps the nodes of the enabled windows distinct and their settings in range (R128). -/
def Obligations.AddressesStayDistinct : Prop :=
  (∀ s t : State, NodesDistinct s → step s = .next t → NodesDistinct t) ∧
  (∀ s t : State, WindowsDistinct s → step s = .next t → WindowsDistinct t)

/-- Every step keeps a PENDING window in-frame and a HELD one not in-frame (R150). Every step keeps a window in-frame only as the window of the frame that the Responder answers, so that at most one is (R146). -/
def Obligations.HoldsStayLegal : Prop :=
  (∀ s t : State, HoldsLegal s → step s = .next t → HoldsLegal t) ∧
  (∀ s t : State, PortConsistent s → FrameHeld s → step s = .next t → FrameHeld t)

/-- Every step keeps notify records and reservations together at most 16 (R162). -/
def Obligations.NotifyStaysWithinSixteen : Prop :=
  ∀ s t : State, NotifyFits s → step s = .next t → NotifyFits t

/-- Every step keeps page memory in its canonical form, all of it inside the 1024 bytes (R147). -/
def Obligations.PageStaysCanonical : Prop :=
  ∀ s t : State, PageCanonical s → step s = .next t → PageCanonical t

/-- Every step keeps the engine, the Responder and the recovery sequence in the states that the port state allows (R131, R145, R172, R175, R180). -/
def Obligations.PortStaysConsistent : Prop :=
  ∀ s t : State, PortConsistent s → step s = .next t → PortConsistent t

/-! ### The words of the register window, and the Responder's bits -/

/-- What each word of the register window reads, its fields in their places and 0 everywhere else: the configuration and limit words (R196), the result word (R190), the status words (R193, R194, R197), the edit and staging areas (R31, R126, R198, R202, R203), the node and window views (R77, R126, R202, R203), the events and enables words (R191, R192), the completion head record and its data (R116, R117, R199), the notify head record (R165, R200, R201); the command word and every unlisted word read 0 (R188); the codes of R190, R197 and R199 under which results, states and outcomes are shown. -/
def Obligations.RegisterWindowWords : Prop :=
  ∀ s : State,
    readLive s 0x000 = 0x07160001 ∧
    [ResultCode.ok, .started, .held, .pending, .cancelPending, .tooLate, .notFound, .empty].map resultCode =
      [0x01, 0x02, 0x03, 0x04, 0x05, 0x06, 0x07, 0x08] ∧
    [ResultCode.badCommand, .badQueue, .badCount, .badKind, .badLength, .overSize, .badAddress, .nodeUnknown,
      .nodeSuspended, .queueFull, .noSlot].map resultCode =
      [0x10, 0x11, 0x12, 0x13, 0x14, 0x15, 0x16, 0x17, 0x18, 0x19, 0x1A] ∧
    [ResultCode.tableFull, .nodeInUse, .duplicate, .badWindow, .windowEnabled, .windowActive, .notHeld, .portState,
      .portConfig].map resultCode = [0x20, 0x21, 0x22, 0x23, 0x24, 0x25, 0x26, 0x30, 0x31] ∧
    [RequestOutcome.done, .refused, .busy, .noTarget, .noResponse, .badCheck, .waitTimeout, .busFault, .busStuck,
      .cancelled, .expired, .nodeSuspended, .localTarget, .portStopped].map outcomeCode = List.range 14 ∧
    [PortState.disabled, .running, .stopping, .fault, .recovering].map portCode = List.range 5 ∧
    [LineState.active, .quiet, .stuck].map lineCode = List.range 3 ∧
    [EngineState.idle, .arbitrating, .header, .claim, .body, .check, .response, .linking, .stopping, .released].map
      engineCode = List.range 10 ∧
    [ResponderState.off, .listening, .decoding, .passive, .stalling, .claiming, .sending, .receiving, .confirming].map
      responderCode = List.range 9 ∧
    readLive s 0x001 = 0#10 ++ s.cfg.quietSel ++ 0#1 ++ s.cfg.bitDiv ++ s.cfg.ownAddr ∧
    readLive s 0x002 = 0#20 ++ s.cfg.passLimit ++ s.cfg.stuckLimit ∧
    readLive s 0x003 = 0#10 ++ s.cfg.limitBkg ++ 0#2 ++ s.cfg.limitStd ++ 0#2 ++ s.cfg.limitExp ∧
    (s.host.last = none → readLive s 0x005 = 0) ∧
    (∀ k v, s.host.last = some (k, v) → readLive s 0x005 = s.host.counter ++ 0#8 ++ v ++ resultCode k) ∧
    readLive s 0x006 = 0#21 ++ s.events.flags ∧ readLive s 0x007 = 0#21 ++ s.events.enables ∧
    readLive s 0x008 =
      0#10 ++ BitVec.ofBool s.hold.reasonFull ++ BitVec.ofBool s.hold.reasonHeld ++
        (match s.hold.stallWindow with | none => 0#4 | some i => 1#1 ++ BitVec.ofNat 3 i.val) ++
        BitVec.ofNat 4 (responderCode s.responder.st) ++ BitVec.ofNat 4 (engineCode s.engine.st) ++ 0#2 ++
        BitVec.ofNat 2 (lineCode s.line.state) ++ 0#1 ++ BitVec.ofNat 3 (portCode s.port.state) ∧
    readLive s 0x009 =
      0#2 ++ BitVec.ofNat 6 (freeSlots s) ++ 0#2 ++ BitVec.ofNat 6 s.sched.bkg.length ++ 0#2 ++
        BitVec.ofNat 6 s.sched.std.length ++ 0#2 ++ BitVec.ofNat 6 s.sched.exp.length ∧
    readLive s 0x00A =
      0#15 ++ BitVec.ofBool s.hold.reservation ++ 0#3 ++ BitVec.ofNat 5 s.hold.queue.length ++ 0#2 ++
        BitVec.ofNat 6 s.completions.length ∧
    readLive s 0x010 = s.edit.node0 ∧ readLive s 0x011 = s.edit.node1 ∧ readLive s 0x012 = s.edit.window0 ∧
    readLive s 0x013 = s.edit.window1 ∧
    (∀ (a : BitVec 9) (i : Fin 21), a.toNat = 0x040 + i.val → readLive s a = tget s.edit.staging i) ∧
    (∀ (a b : BitVec 9) (i : Fin 16), a.toNat = 0x020 + 2 * i.val → b.toNat = 0x021 + 2 * i.val →
      (tget s.nodes i = none → readLive s a = 0 ∧ readLive s b = 0) ∧
      ∀ n, tget s.nodes i = some n →
        readLive s a =
          BitVec.ofNat 8 n.backoffLeft ++ 0#2 ++ BitVec.ofNat 6 n.refs ++ BitVec.ofNat 4 n.failCount ++ 0#2 ++
            (match n.state with | .available => 1#2 | .backoff => 2#2 | .suspended => 3#2) ++ n.address ∧
        readLive s b = 0#8 ++ n.waitLimitMs ++ n.backoffMs ++ n.failThreshold ++ 0#1 ++ n.retryLimit) ∧
    (∀ (a b : BitVec 9) (i : Fin 8), a.toNat = 0x080 + 2 * i.val → b.toNat = 0x081 + 2 * i.val →
      let w := windowOf s i
      readLive s a = 0#7 ++ w.size ++ 0#6 ++ w.base ∧
      readLive s b =
        BitVec.ofBool w.enabled ++ 0#2 ++ BitVec.ofBool w.inFrame ++
          (match w.hold with | .open => 0#2 | .pending => 1#2 | .held => 2#2) ++ 0#4 ++
          (match w.contention with | .answerBusy => 0#1 | .stall => 1#1) ++ BitVec.ofBool w.notify ++ 0#2 ++
          (match w.access with | .readWrite => 0#2 | .readOnly => 1#2 | .writeOnly => 2#2 | .code3 => 3#2) ++
          w.stallMs ++ w.node) ∧
    (∀ (a : BitVec 9) (m : Nat), a.toNat = 0x062 + m → m < 16 →
      (s.completions = [] → readLive s a = 0) ∧
      ∀ r rest, s.completions = r :: rest →
        ∀ j, j < 4 → wordByte (readLive s a) j = bufferByte (slotOf s r.slot).data (4 * m + j)) ∧
    (s.hold.queue = [] → readLive s 0x078 = 0) ∧
    (∀ r rest, s.hold.queue = r :: rest →
      readLive s 0x078 =
        BitVec.ofNat 3 r.window.val ++ r.offset ++ BitVec.ofNat 5 (r.length - 1) ++ r.source ++ r.sequence) ∧
    (s.completions = [] → readLive s 0x060 = 0 ∧ readLive s 0x061 = 0) ∧
    (∀ r rest, s.completions = r :: rest →
      readLive s 0x060 =
        1#1 ++ 0#3 ++ BitVec.ofNat 4 (outcomeCode r.outcome) ++ 0#1 ++ BitVec.ofNat 7 r.dataLength ++
          BitVec.ofNat 4 r.attempts ++ 0#1 ++ BitVec.ofNat 3 r.framesDone ++ r.tag ∧
      readLive s 0x061 =
        0#7 ++ (match r.failNode with | none => 0#9 | some a => 1#1 ++ a) ++ 0#3 ++
          BitVec.ofBool r.failIndex.isSome ++ 0#2 ++ BitVec.ofNat 2 (r.failIndex.getD 0) ++ BitVec.ofNat 8 r.arbLosses) ∧
    (∀ (a : BitVec 9) (j : Nat), 0x100 ≤ a.toNat → j < 4 →
      wordByte (readLive s a) j = s.page.read (4 * (a.toNat - 0x100) + j)) ∧
    ∀ a : BitVec 9, a = 0x004 ∨ (0x00B ≤ a.toNat ∧ a.toNat ≤ 0x00F) ∨ (0x014 ≤ a.toNat ∧ a.toNat ≤ 0x01F) ∨
        (0x055 ≤ a.toNat ∧ a.toNat ≤ 0x05F) ∨ (0x072 ≤ a.toNat ∧ a.toNat ≤ 0x077) ∨
        (0x079 ≤ a.toNat ∧ a.toNat ≤ 0x07F) ∨ (0x090 ≤ a.toNat ∧ a.toNat ≤ 0x0FF) →
      readLive s a = 0

/-- What the Responder takes at a rise of SBCK past the header: the first claim bit; in SENDING it counts its own bit into the CRC register, and after the last check bit it is CONFIRMING (R140); in RECEIVING a check bit, and at the last one of a check that holds it is CONFIRMING with the WRITE verified (R141, R143); in PASSIVE it follows the claim to the frame's last bit (R132, R137); bit 35 of the engine's own frame makes it PASSIVE (R101, R133); in STALLING it counts; at a BOUNDARY the high phase is the one that must carry a condition (R5, R8). The model's conventions: log 8, 9, 10, 11. What a fall of SBCK sets in motion at the Responder while the engine has no clock: 10 REFCLK periods to each claim bit (R132, R137) and to the response slot, ACCEPT with its commit for a verified WRITE and nothing for any other (R140, R142, R143); the end of the response slot, LISTENING at BOUNDARY (R132), where a frame whose window is in-frame still ends by discard (the model's choice, log 35); a high phase at BOUNDARY with no condition, BETWEEN (R8); the release of SBDT after the last bit that it drove (R132). The model's conventions: log 6, 33. -/
def Obligations.ResponderBits : Prop :=
  ((∀ (s : State) (b : Bool), RiseComes s b → s.engine.phase = .none →
     let high := { s.line with sbck := true, stuckMs := 0, stuckDue := false }
     let takes := fun (r : Responder) => exec (.sbckRise true) s = .next { s with line := high, responder := r }
     let atEnd := { s.responder with st := .listening, pos := .boundary, high := .lastBit, window := none }
     (s.responder.pos = .boundary → takes { s.responder with high := .condition }) ∧
     (s.responder.pos = .between → takes s.responder) ∧
     ∀ n, s.responder.pos = .within n →
       let r := { s.responder with pos := .within (n + 1) }
       (s.responder.st = .stalling → takes r) ∧
       (s.responder.st = .claiming → n + 1 = 36 → takes { r with claimFirst := b }) ∧
       (s.responder.st = .sending → 37 ≤ n → n < 45 + 8 * frameLen s →
         takes { r with
           crc :=
             if n < 37 + 8 * frameLen s then
               crcStep s.responder.crc (byteBit (bufferByte s.responder.sendBuf ((n - 37) / 8)) ((n - 37) % 8))
             else s.responder.crc
           st := if n + 1 = 45 + 8 * frameLen s then .confirming else .sending }) ∧
       (s.responder.st = .receiving → 37 + 8 * frameLen s ≤ n →
         (n + 1 < 45 + 8 * frameLen s → takes { r with check := shiftIn s.responder.check b }) ∧
         (n + 1 = 45 + 8 * frameLen s → shiftIn s.responder.check b = s.responder.crc →
           takes { r with check := shiftIn s.responder.check b, st := .confirming, verified := true })) ∧
       (s.responder.st = .confirming → frameKind s = some .write → takes r) ∧
       (s.responder.st = .passive →
         (n + 1 = 36 → takes { r with claimFirst := b }) ∧
         (n + 1 = 37 →
           let body := headerKind s.responder.header = some .read ∨ headerKind s.responder.header = some .write
           let proceeds := claimOfBits s.responder.claimFirst b = .proceed ∧ body
           (proceeds → takes { r with goesOn := true }) ∧ (¬ proceeds → takes { atEnd with goesOn := false })) ∧
         (37 ≤ n → s.responder.goesOn = true →
           (n + 1 < 46 + 8 * frameLen s → takes r) ∧ (n + 1 = 46 + 8 * frameLen s → takes atEnd)))) ∧
   ∀ (s : State) (b : Bool), RiseComes s b → s.engine.phase = .waiting → s.engine.st = .header →
     s.engine.pos = .within 34 → s.engine.sent = some b → s.responder.st = .decoding → s.responder.pos = .within 34 →
     exec (.sbckRise true) s = .next
       { risen s with
         engine := { s.engine with
           waitTimer := none, pos := .within 35, phase := .high, left := s.cfg.bitDiv.toNat / 2, sent := none,
           crc := crcStep s.engine.crc b, st := .claim }
         responder := { s.responder with
           pos := .within 35, header := headerShift s.responder.header b, crc := crcStep s.responder.crc b, check := 0,
           verified := false, st := .passive, window := none } }) ∧
  (∀ s : State, s.line.sbck = true → s.engine.phase = .none →
     let low := { s.line with
       sbck := false, state := if s.line.state = .quiet then .active else s.line.state, quietTb := 0, quietPart := 0 }
     let falls := fun (r : Responder) => exec .sbckFall s = .next { s with line := low, responder := r }
     let released := if s.responder.driveSbdt then some 10 else none
     (∀ n, s.responder.st = .claiming → s.responder.pos = .within n →
       (n = 35 → falls { s.responder with
         delay := some 10, commits := false
         want := decide (s.responder.code = .proceed ∨ s.responder.code = .busy) }) ∧
       (n = 36 → falls { s.responder with
         delay := some 10, commits := false
         want := decide (s.responder.code = .proceed ∨ s.responder.code = .refuse) })) ∧
     (s.responder.st = .confirming → s.responder.goesOn = true →
       (s.responder.pos = .within (45 + 8 * frameLen s) →
         let accepts := decide (frameKind s = some .write ∧ s.responder.verified = true)
         falls { s.responder with delay := some 10, want := accepts, commits := accepts }) ∧
       (s.responder.pos = .within (46 + 8 * frameLen s) →
         let atEnd := { s.responder with
           st := .listening, pos := .boundary, high := .plain, window := none, delay := released, want := false,
           commits := false }
         ((∀ i, s.responder.window = some i → (windowOf s i).inFrame = false) → falls atEnd) ∧
         ∀ i, s.responder.window = some i → (windowOf s i).inFrame = true →
           let w := windowOf s i
           exec .sbckFall s = .next
             { s with
               line := low
               responder := { atEnd with
                 sendBuf := Vector.replicate 32 0, intake := Vector.replicate 32 0, verified := false }
               hold := { s.hold with reservation := false }
               windows := tset s.windows i { w with inFrame := false, hold := if w.hold = .pending then .held else w.hold }
               events := { s.events with
                 flags := if w.hold = .pending then s.events.flags ||| 0x004 else s.events.flags } })) ∧
     (s.responder.st = .listening ∨ s.responder.st = .decoding ∨ s.responder.st = .passive ∨
         s.responder.st = .receiving →
       let quits := { s.responder with high := .plain, delay := released, want := false, commits := false }
       (s.responder.pos = .boundary → s.responder.high = .condition → falls { quits with pos := .between }) ∧
       (s.responder.pos ≠ .boundary ∨ s.responder.high ≠ .condition → falls quits)))

end
end

