-- ==== Sys2Proof/Laws/State.lean ====
section
/-! SUPPORT. What each block update does to each block: one lemma per pair, true by definition. -/

namespace Sys2Proof.Machine

section
variable (s : State) (x : List Instr)
@[simp] theorem State.setPending_pending : (s.setPending x).pending = x := rfl
@[simp] theorem State.setPending_host : (s.setPending x).host = s.host := rfl
@[simp] theorem State.setPending_events : (s.setPending x).events = s.events := rfl
@[simp] theorem State.setPending_edit : (s.setPending x).edit = s.edit := rfl
@[simp] theorem State.setPending_cfg : (s.setPending x).cfg = s.cfg := rfl
@[simp] theorem State.setPending_store : (s.setPending x).store = s.store := rfl
@[simp] theorem State.setPending_sched : (s.setPending x).sched = s.sched := rfl
@[simp] theorem State.setPending_nodes : (s.setPending x).nodes = s.nodes := rfl
@[simp] theorem State.setPending_engine : (s.setPending x).engine = s.engine := rfl
@[simp] theorem State.setPending_completions : (s.setPending x).completions = s.completions := rfl
@[simp] theorem State.setPending_windows : (s.setPending x).windows = s.windows := rfl
@[simp] theorem State.setPending_responder : (s.setPending x).responder = s.responder := rfl
@[simp] theorem State.setPending_page : (s.setPending x).page = s.page := rfl
@[simp] theorem State.setPending_hold : (s.setPending x).hold = s.hold := rfl
@[simp] theorem State.setPending_line : (s.setPending x).line = s.line := rfl
@[simp] theorem State.setPending_port : (s.setPending x).port = s.port := rfl
end

section
variable (s : State) (x : HostPort)
@[simp] theorem State.setHost_pending : (s.setHost x).pending = s.pending := rfl
@[simp] theorem State.setHost_host : (s.setHost x).host = x := rfl
@[simp] theorem State.setHost_events : (s.setHost x).events = s.events := rfl
@[simp] theorem State.setHost_edit : (s.setHost x).edit = s.edit := rfl
@[simp] theorem State.setHost_cfg : (s.setHost x).cfg = s.cfg := rfl
@[simp] theorem State.setHost_store : (s.setHost x).store = s.store := rfl
@[simp] theorem State.setHost_sched : (s.setHost x).sched = s.sched := rfl
@[simp] theorem State.setHost_nodes : (s.setHost x).nodes = s.nodes := rfl
@[simp] theorem State.setHost_engine : (s.setHost x).engine = s.engine := rfl
@[simp] theorem State.setHost_completions : (s.setHost x).completions = s.completions := rfl
@[simp] theorem State.setHost_windows : (s.setHost x).windows = s.windows := rfl
@[simp] theorem State.setHost_responder : (s.setHost x).responder = s.responder := rfl
@[simp] theorem State.setHost_page : (s.setHost x).page = s.page := rfl
@[simp] theorem State.setHost_hold : (s.setHost x).hold = s.hold := rfl
@[simp] theorem State.setHost_line : (s.setHost x).line = s.line := rfl
@[simp] theorem State.setHost_port : (s.setHost x).port = s.port := rfl
end

section
variable (s : State) (x : EventUnit)
@[simp] theorem State.setEvents_pending : (s.setEvents x).pending = s.pending := rfl
@[simp] theorem State.setEvents_host : (s.setEvents x).host = s.host := rfl
@[simp] theorem State.setEvents_events : (s.setEvents x).events = x := rfl
@[simp] theorem State.setEvents_edit : (s.setEvents x).edit = s.edit := rfl
@[simp] theorem State.setEvents_cfg : (s.setEvents x).cfg = s.cfg := rfl
@[simp] theorem State.setEvents_store : (s.setEvents x).store = s.store := rfl
@[simp] theorem State.setEvents_sched : (s.setEvents x).sched = s.sched := rfl
@[simp] theorem State.setEvents_nodes : (s.setEvents x).nodes = s.nodes := rfl
@[simp] theorem State.setEvents_engine : (s.setEvents x).engine = s.engine := rfl
@[simp] theorem State.setEvents_completions : (s.setEvents x).completions = s.completions := rfl
@[simp] theorem State.setEvents_windows : (s.setEvents x).windows = s.windows := rfl
@[simp] theorem State.setEvents_responder : (s.setEvents x).responder = s.responder := rfl
@[simp] theorem State.setEvents_page : (s.setEvents x).page = s.page := rfl
@[simp] theorem State.setEvents_hold : (s.setEvents x).hold = s.hold := rfl
@[simp] theorem State.setEvents_line : (s.setEvents x).line = s.line := rfl
@[simp] theorem State.setEvents_port : (s.setEvents x).port = s.port := rfl
end

section
variable (s : State) (x : EditAreas)
@[simp] theorem State.setEdit_pending : (s.setEdit x).pending = s.pending := rfl
@[simp] theorem State.setEdit_host : (s.setEdit x).host = s.host := rfl
@[simp] theorem State.setEdit_events : (s.setEdit x).events = s.events := rfl
@[simp] theorem State.setEdit_edit : (s.setEdit x).edit = x := rfl
@[simp] theorem State.setEdit_cfg : (s.setEdit x).cfg = s.cfg := rfl
@[simp] theorem State.setEdit_store : (s.setEdit x).store = s.store := rfl
@[simp] theorem State.setEdit_sched : (s.setEdit x).sched = s.sched := rfl
@[simp] theorem State.setEdit_nodes : (s.setEdit x).nodes = s.nodes := rfl
@[simp] theorem State.setEdit_engine : (s.setEdit x).engine = s.engine := rfl
@[simp] theorem State.setEdit_completions : (s.setEdit x).completions = s.completions := rfl
@[simp] theorem State.setEdit_windows : (s.setEdit x).windows = s.windows := rfl
@[simp] theorem State.setEdit_responder : (s.setEdit x).responder = s.responder := rfl
@[simp] theorem State.setEdit_page : (s.setEdit x).page = s.page := rfl
@[simp] theorem State.setEdit_hold : (s.setEdit x).hold = s.hold := rfl
@[simp] theorem State.setEdit_line : (s.setEdit x).line = s.line := rfl
@[simp] theorem State.setEdit_port : (s.setEdit x).port = s.port := rfl
end

section
variable (s : State) (x : Cfg)
@[simp] theorem State.setCfg_pending : (s.setCfg x).pending = s.pending := rfl
@[simp] theorem State.setCfg_host : (s.setCfg x).host = s.host := rfl
@[simp] theorem State.setCfg_events : (s.setCfg x).events = s.events := rfl
@[simp] theorem State.setCfg_edit : (s.setCfg x).edit = s.edit := rfl
@[simp] theorem State.setCfg_cfg : (s.setCfg x).cfg = x := rfl
@[simp] theorem State.setCfg_store : (s.setCfg x).store = s.store := rfl
@[simp] theorem State.setCfg_sched : (s.setCfg x).sched = s.sched := rfl
@[simp] theorem State.setCfg_nodes : (s.setCfg x).nodes = s.nodes := rfl
@[simp] theorem State.setCfg_engine : (s.setCfg x).engine = s.engine := rfl
@[simp] theorem State.setCfg_completions : (s.setCfg x).completions = s.completions := rfl
@[simp] theorem State.setCfg_windows : (s.setCfg x).windows = s.windows := rfl
@[simp] theorem State.setCfg_responder : (s.setCfg x).responder = s.responder := rfl
@[simp] theorem State.setCfg_page : (s.setCfg x).page = s.page := rfl
@[simp] theorem State.setCfg_hold : (s.setCfg x).hold = s.hold := rfl
@[simp] theorem State.setCfg_line : (s.setCfg x).line = s.line := rfl
@[simp] theorem State.setCfg_port : (s.setCfg x).port = s.port := rfl
end

section
variable (s : State) (x : Store)
@[simp] theorem State.setStore_pending : (s.setStore x).pending = s.pending := rfl
@[simp] theorem State.setStore_host : (s.setStore x).host = s.host := rfl
@[simp] theorem State.setStore_events : (s.setStore x).events = s.events := rfl
@[simp] theorem State.setStore_edit : (s.setStore x).edit = s.edit := rfl
@[simp] theorem State.setStore_cfg : (s.setStore x).cfg = s.cfg := rfl
@[simp] theorem State.setStore_store : (s.setStore x).store = x := rfl
@[simp] theorem State.setStore_sched : (s.setStore x).sched = s.sched := rfl
@[simp] theorem State.setStore_nodes : (s.setStore x).nodes = s.nodes := rfl
@[simp] theorem State.setStore_engine : (s.setStore x).engine = s.engine := rfl
@[simp] theorem State.setStore_completions : (s.setStore x).completions = s.completions := rfl
@[simp] theorem State.setStore_windows : (s.setStore x).windows = s.windows := rfl
@[simp] theorem State.setStore_responder : (s.setStore x).responder = s.responder := rfl
@[simp] theorem State.setStore_page : (s.setStore x).page = s.page := rfl
@[simp] theorem State.setStore_hold : (s.setStore x).hold = s.hold := rfl
@[simp] theorem State.setStore_line : (s.setStore x).line = s.line := rfl
@[simp] theorem State.setStore_port : (s.setStore x).port = s.port := rfl
end

section
variable (s : State) (x : Sched)
@[simp] theorem State.setSched_pending : (s.setSched x).pending = s.pending := rfl
@[simp] theorem State.setSched_host : (s.setSched x).host = s.host := rfl
@[simp] theorem State.setSched_events : (s.setSched x).events = s.events := rfl
@[simp] theorem State.setSched_edit : (s.setSched x).edit = s.edit := rfl
@[simp] theorem State.setSched_cfg : (s.setSched x).cfg = s.cfg := rfl
@[simp] theorem State.setSched_store : (s.setSched x).store = s.store := rfl
@[simp] theorem State.setSched_sched : (s.setSched x).sched = x := rfl
@[simp] theorem State.setSched_nodes : (s.setSched x).nodes = s.nodes := rfl
@[simp] theorem State.setSched_engine : (s.setSched x).engine = s.engine := rfl
@[simp] theorem State.setSched_completions : (s.setSched x).completions = s.completions := rfl
@[simp] theorem State.setSched_windows : (s.setSched x).windows = s.windows := rfl
@[simp] theorem State.setSched_responder : (s.setSched x).responder = s.responder := rfl
@[simp] theorem State.setSched_page : (s.setSched x).page = s.page := rfl
@[simp] theorem State.setSched_hold : (s.setSched x).hold = s.hold := rfl
@[simp] theorem State.setSched_line : (s.setSched x).line = s.line := rfl
@[simp] theorem State.setSched_port : (s.setSched x).port = s.port := rfl
end

section
variable (s : State) (x : Vector (Option NodeEntry) 16)
@[simp] theorem State.setNodes_pending : (s.setNodes x).pending = s.pending := rfl
@[simp] theorem State.setNodes_host : (s.setNodes x).host = s.host := rfl
@[simp] theorem State.setNodes_events : (s.setNodes x).events = s.events := rfl
@[simp] theorem State.setNodes_edit : (s.setNodes x).edit = s.edit := rfl
@[simp] theorem State.setNodes_cfg : (s.setNodes x).cfg = s.cfg := rfl
@[simp] theorem State.setNodes_store : (s.setNodes x).store = s.store := rfl
@[simp] theorem State.setNodes_sched : (s.setNodes x).sched = s.sched := rfl
@[simp] theorem State.setNodes_nodes : (s.setNodes x).nodes = x := rfl
@[simp] theorem State.setNodes_engine : (s.setNodes x).engine = s.engine := rfl
@[simp] theorem State.setNodes_completions : (s.setNodes x).completions = s.completions := rfl
@[simp] theorem State.setNodes_windows : (s.setNodes x).windows = s.windows := rfl
@[simp] theorem State.setNodes_responder : (s.setNodes x).responder = s.responder := rfl
@[simp] theorem State.setNodes_page : (s.setNodes x).page = s.page := rfl
@[simp] theorem State.setNodes_hold : (s.setNodes x).hold = s.hold := rfl
@[simp] theorem State.setNodes_line : (s.setNodes x).line = s.line := rfl
@[simp] theorem State.setNodes_port : (s.setNodes x).port = s.port := rfl
end

section
variable (s : State) (x : Engine)
@[simp] theorem State.setEngine_pending : (s.setEngine x).pending = s.pending := rfl
@[simp] theorem State.setEngine_host : (s.setEngine x).host = s.host := rfl
@[simp] theorem State.setEngine_events : (s.setEngine x).events = s.events := rfl
@[simp] theorem State.setEngine_edit : (s.setEngine x).edit = s.edit := rfl
@[simp] theorem State.setEngine_cfg : (s.setEngine x).cfg = s.cfg := rfl
@[simp] theorem State.setEngine_store : (s.setEngine x).store = s.store := rfl
@[simp] theorem State.setEngine_sched : (s.setEngine x).sched = s.sched := rfl
@[simp] theorem State.setEngine_nodes : (s.setEngine x).nodes = s.nodes := rfl
@[simp] theorem State.setEngine_engine : (s.setEngine x).engine = x := rfl
@[simp] theorem State.setEngine_completions : (s.setEngine x).completions = s.completions := rfl
@[simp] theorem State.setEngine_windows : (s.setEngine x).windows = s.windows := rfl
@[simp] theorem State.setEngine_responder : (s.setEngine x).responder = s.responder := rfl
@[simp] theorem State.setEngine_page : (s.setEngine x).page = s.page := rfl
@[simp] theorem State.setEngine_hold : (s.setEngine x).hold = s.hold := rfl
@[simp] theorem State.setEngine_line : (s.setEngine x).line = s.line := rfl
@[simp] theorem State.setEngine_port : (s.setEngine x).port = s.port := rfl
end

section
variable (s : State) (x : List CompletionRecord)
@[simp] theorem State.setCompletions_pending : (s.setCompletions x).pending = s.pending := rfl
@[simp] theorem State.setCompletions_host : (s.setCompletions x).host = s.host := rfl
@[simp] theorem State.setCompletions_events : (s.setCompletions x).events = s.events := rfl
@[simp] theorem State.setCompletions_edit : (s.setCompletions x).edit = s.edit := rfl
@[simp] theorem State.setCompletions_cfg : (s.setCompletions x).cfg = s.cfg := rfl
@[simp] theorem State.setCompletions_store : (s.setCompletions x).store = s.store := rfl
@[simp] theorem State.setCompletions_sched : (s.setCompletions x).sched = s.sched := rfl
@[simp] theorem State.setCompletions_nodes : (s.setCompletions x).nodes = s.nodes := rfl
@[simp] theorem State.setCompletions_engine : (s.setCompletions x).engine = s.engine := rfl
@[simp] theorem State.setCompletions_completions : (s.setCompletions x).completions = x := rfl
@[simp] theorem State.setCompletions_windows : (s.setCompletions x).windows = s.windows := rfl
@[simp] theorem State.setCompletions_responder : (s.setCompletions x).responder = s.responder := rfl
@[simp] theorem State.setCompletions_page : (s.setCompletions x).page = s.page := rfl
@[simp] theorem State.setCompletions_hold : (s.setCompletions x).hold = s.hold := rfl
@[simp] theorem State.setCompletions_line : (s.setCompletions x).line = s.line := rfl
@[simp] theorem State.setCompletions_port : (s.setCompletions x).port = s.port := rfl
end

section
variable (s : State) (x : Vector Window 8)
@[simp] theorem State.setWindows_pending : (s.setWindows x).pending = s.pending := rfl
@[simp] theorem State.setWindows_host : (s.setWindows x).host = s.host := rfl
@[simp] theorem State.setWindows_events : (s.setWindows x).events = s.events := rfl
@[simp] theorem State.setWindows_edit : (s.setWindows x).edit = s.edit := rfl
@[simp] theorem State.setWindows_cfg : (s.setWindows x).cfg = s.cfg := rfl
@[simp] theorem State.setWindows_store : (s.setWindows x).store = s.store := rfl
@[simp] theorem State.setWindows_sched : (s.setWindows x).sched = s.sched := rfl
@[simp] theorem State.setWindows_nodes : (s.setWindows x).nodes = s.nodes := rfl
@[simp] theorem State.setWindows_engine : (s.setWindows x).engine = s.engine := rfl
@[simp] theorem State.setWindows_completions : (s.setWindows x).completions = s.completions := rfl
@[simp] theorem State.setWindows_windows : (s.setWindows x).windows = x := rfl
@[simp] theorem State.setWindows_responder : (s.setWindows x).responder = s.responder := rfl
@[simp] theorem State.setWindows_page : (s.setWindows x).page = s.page := rfl
@[simp] theorem State.setWindows_hold : (s.setWindows x).hold = s.hold := rfl
@[simp] theorem State.setWindows_line : (s.setWindows x).line = s.line := rfl
@[simp] theorem State.setWindows_port : (s.setWindows x).port = s.port := rfl
end

section
variable (s : State) (x : Responder)
@[simp] theorem State.setResponder_pending : (s.setResponder x).pending = s.pending := rfl
@[simp] theorem State.setResponder_host : (s.setResponder x).host = s.host := rfl
@[simp] theorem State.setResponder_events : (s.setResponder x).events = s.events := rfl
@[simp] theorem State.setResponder_edit : (s.setResponder x).edit = s.edit := rfl
@[simp] theorem State.setResponder_cfg : (s.setResponder x).cfg = s.cfg := rfl
@[simp] theorem State.setResponder_store : (s.setResponder x).store = s.store := rfl
@[simp] theorem State.setResponder_sched : (s.setResponder x).sched = s.sched := rfl
@[simp] theorem State.setResponder_nodes : (s.setResponder x).nodes = s.nodes := rfl
@[simp] theorem State.setResponder_engine : (s.setResponder x).engine = s.engine := rfl
@[simp] theorem State.setResponder_completions : (s.setResponder x).completions = s.completions := rfl
@[simp] theorem State.setResponder_windows : (s.setResponder x).windows = s.windows := rfl
@[simp] theorem State.setResponder_responder : (s.setResponder x).responder = x := rfl
@[simp] theorem State.setResponder_page : (s.setResponder x).page = s.page := rfl
@[simp] theorem State.setResponder_hold : (s.setResponder x).hold = s.hold := rfl
@[simp] theorem State.setResponder_line : (s.setResponder x).line = s.line := rfl
@[simp] theorem State.setResponder_port : (s.setResponder x).port = s.port := rfl
end

section
variable (s : State) (x : Memory)
@[simp] theorem State.setPage_pending : (s.setPage x).pending = s.pending := rfl
@[simp] theorem State.setPage_host : (s.setPage x).host = s.host := rfl
@[simp] theorem State.setPage_events : (s.setPage x).events = s.events := rfl
@[simp] theorem State.setPage_edit : (s.setPage x).edit = s.edit := rfl
@[simp] theorem State.setPage_cfg : (s.setPage x).cfg = s.cfg := rfl
@[simp] theorem State.setPage_store : (s.setPage x).store = s.store := rfl
@[simp] theorem State.setPage_sched : (s.setPage x).sched = s.sched := rfl
@[simp] theorem State.setPage_nodes : (s.setPage x).nodes = s.nodes := rfl
@[simp] theorem State.setPage_engine : (s.setPage x).engine = s.engine := rfl
@[simp] theorem State.setPage_completions : (s.setPage x).completions = s.completions := rfl
@[simp] theorem State.setPage_windows : (s.setPage x).windows = s.windows := rfl
@[simp] theorem State.setPage_responder : (s.setPage x).responder = s.responder := rfl
@[simp] theorem State.setPage_page : (s.setPage x).page = x := rfl
@[simp] theorem State.setPage_hold : (s.setPage x).hold = s.hold := rfl
@[simp] theorem State.setPage_line : (s.setPage x).line = s.line := rfl
@[simp] theorem State.setPage_port : (s.setPage x).port = s.port := rfl
end

section
variable (s : State) (x : HoldUnit)
@[simp] theorem State.setHold_pending : (s.setHold x).pending = s.pending := rfl
@[simp] theorem State.setHold_host : (s.setHold x).host = s.host := rfl
@[simp] theorem State.setHold_events : (s.setHold x).events = s.events := rfl
@[simp] theorem State.setHold_edit : (s.setHold x).edit = s.edit := rfl
@[simp] theorem State.setHold_cfg : (s.setHold x).cfg = s.cfg := rfl
@[simp] theorem State.setHold_store : (s.setHold x).store = s.store := rfl
@[simp] theorem State.setHold_sched : (s.setHold x).sched = s.sched := rfl
@[simp] theorem State.setHold_nodes : (s.setHold x).nodes = s.nodes := rfl
@[simp] theorem State.setHold_engine : (s.setHold x).engine = s.engine := rfl
@[simp] theorem State.setHold_completions : (s.setHold x).completions = s.completions := rfl
@[simp] theorem State.setHold_windows : (s.setHold x).windows = s.windows := rfl
@[simp] theorem State.setHold_responder : (s.setHold x).responder = s.responder := rfl
@[simp] theorem State.setHold_page : (s.setHold x).page = s.page := rfl
@[simp] theorem State.setHold_hold : (s.setHold x).hold = x := rfl
@[simp] theorem State.setHold_line : (s.setHold x).line = s.line := rfl
@[simp] theorem State.setHold_port : (s.setHold x).port = s.port := rfl
end

section
variable (s : State) (x : Line)
@[simp] theorem State.setLine_pending : (s.setLine x).pending = s.pending := rfl
@[simp] theorem State.setLine_host : (s.setLine x).host = s.host := rfl
@[simp] theorem State.setLine_events : (s.setLine x).events = s.events := rfl
@[simp] theorem State.setLine_edit : (s.setLine x).edit = s.edit := rfl
@[simp] theorem State.setLine_cfg : (s.setLine x).cfg = s.cfg := rfl
@[simp] theorem State.setLine_store : (s.setLine x).store = s.store := rfl
@[simp] theorem State.setLine_sched : (s.setLine x).sched = s.sched := rfl
@[simp] theorem State.setLine_nodes : (s.setLine x).nodes = s.nodes := rfl
@[simp] theorem State.setLine_engine : (s.setLine x).engine = s.engine := rfl
@[simp] theorem State.setLine_completions : (s.setLine x).completions = s.completions := rfl
@[simp] theorem State.setLine_windows : (s.setLine x).windows = s.windows := rfl
@[simp] theorem State.setLine_responder : (s.setLine x).responder = s.responder := rfl
@[simp] theorem State.setLine_page : (s.setLine x).page = s.page := rfl
@[simp] theorem State.setLine_hold : (s.setLine x).hold = s.hold := rfl
@[simp] theorem State.setLine_line : (s.setLine x).line = x := rfl
@[simp] theorem State.setLine_port : (s.setLine x).port = s.port := rfl
end

section
variable (s : State) (x : Port)
@[simp] theorem State.setPort_pending : (s.setPort x).pending = s.pending := rfl
@[simp] theorem State.setPort_host : (s.setPort x).host = s.host := rfl
@[simp] theorem State.setPort_events : (s.setPort x).events = s.events := rfl
@[simp] theorem State.setPort_edit : (s.setPort x).edit = s.edit := rfl
@[simp] theorem State.setPort_cfg : (s.setPort x).cfg = s.cfg := rfl
@[simp] theorem State.setPort_store : (s.setPort x).store = s.store := rfl
@[simp] theorem State.setPort_sched : (s.setPort x).sched = s.sched := rfl
@[simp] theorem State.setPort_nodes : (s.setPort x).nodes = s.nodes := rfl
@[simp] theorem State.setPort_engine : (s.setPort x).engine = s.engine := rfl
@[simp] theorem State.setPort_completions : (s.setPort x).completions = s.completions := rfl
@[simp] theorem State.setPort_windows : (s.setPort x).windows = s.windows := rfl
@[simp] theorem State.setPort_responder : (s.setPort x).responder = s.responder := rfl
@[simp] theorem State.setPort_page : (s.setPort x).page = s.page := rfl
@[simp] theorem State.setPort_hold : (s.setPort x).hold = s.hold := rfl
@[simp] theorem State.setPort_line : (s.setPort x).line = s.line := rfl
@[simp] theorem State.setPort_port : (s.setPort x).port = x := rfl
end

end Sys2Proof.Machine
end

