-- ==== Sys2Proof/Laws/Frames.lean ====
section
/-! SUPPORT. What each shared operation leaves alone: one lemma per operation, to be cited in place of unfolding it. -/

namespace Sys2Proof.Machine

/-- The request side of the part ran: nothing else of it changed. -/
structure RequestFrame (s t : State) : Prop where
  pending : t.pending = s.pending
  host : t.host = s.host
  edit : t.edit = s.edit
  cfg : t.cfg = s.cfg
  windows : t.windows = s.windows
  responder : t.responder = s.responder
  page : t.page = s.page
  hold : t.hold = s.hold
  line : t.line = s.line
  port : t.port = s.port

/-- The engine ran, with the line and the port at its entry into IDLE: the host's side, the windows, the Responder and page memory did not change. -/
structure EngineFrame (s t : State) : Prop where
  pending : t.pending = s.pending
  host : t.host = s.host
  edit : t.edit = s.edit
  cfg : t.cfg = s.cfg
  windows : t.windows = s.windows
  responder : t.responder = s.responder
  page : t.page = s.page
  hold : t.hold = s.hold

/-- The Responder's side ran: the host's side, the request side, the line and the port did not change. -/
structure ResponderFrame (s t : State) : Prop where
  pending : t.pending = s.pending
  host : t.host = s.host
  edit : t.edit = s.edit
  cfg : t.cfg = s.cfg
  store : t.store = s.store
  sched : t.sched = s.sched
  nodes : t.nodes = s.nodes
  engine : t.engine = s.engine
  completions : t.completions = s.completions
  line : t.line = s.line
  port : t.port = s.port

theorem RequestFrame.refl (s : State) : RequestFrame s s := by constructor <;> rfl
theorem EngineFrame.refl (s : State) : EngineFrame s s := by constructor <;> rfl
theorem ResponderFrame.refl (s : State) : ResponderFrame s s := by constructor <;> rfl

theorem RequestFrame.trans {s t u : State} (a : RequestFrame s t) (b : RequestFrame t u) : RequestFrame s u :=
  ⟨b.pending.trans a.pending, b.host.trans a.host, b.edit.trans a.edit, b.cfg.trans a.cfg, b.windows.trans a.windows,
    b.responder.trans a.responder, b.page.trans a.page, b.hold.trans a.hold, b.line.trans a.line, b.port.trans a.port⟩

theorem EngineFrame.trans {s t u : State} (a : EngineFrame s t) (b : EngineFrame t u) : EngineFrame s u :=
  ⟨b.pending.trans a.pending, b.host.trans a.host, b.edit.trans a.edit, b.cfg.trans a.cfg, b.windows.trans a.windows,
    b.responder.trans a.responder, b.page.trans a.page, b.hold.trans a.hold⟩

theorem ResponderFrame.trans {s t u : State} (a : ResponderFrame s t) (b : ResponderFrame t u) : ResponderFrame s u :=
  ⟨b.pending.trans a.pending, b.host.trans a.host, b.edit.trans a.edit, b.cfg.trans a.cfg, b.store.trans a.store,
    b.sched.trans a.sched, b.nodes.trans a.nodes, b.engine.trans a.engine, b.completions.trans a.completions,
    b.line.trans a.line, b.port.trans a.port⟩

theorem RequestFrame.engine {s t : State} (a : RequestFrame s t) : EngineFrame s t :=
  ⟨a.pending, a.host, a.edit, a.cfg, a.windows, a.responder, a.page, a.hold⟩

/-! ### Requests -/

theorem setEvent_requestFrame (e : Event) (s : State) : RequestFrame s (setEvent e s) := by
  constructor <;> simp [setEvent]

theorem setEvent_responderFrame (e : Event) (s : State) : ResponderFrame s (setEvent e s) := by
  constructor <;> simp [setEvent]

theorem setSlot_frame (k : Fin 32) (x : Slot) (s : State) : RequestFrame s (setSlot k x s) := by
  constructor <;> simp [setSlot]

theorem setTimer_frame (k : Fin 32) (t : DeadlineTimer) (s : State) : RequestFrame s (setTimer k t s) := by
  constructor <;> simp [setTimer]

theorem mapNodes_frame (p : Byte → Bool) (f : NodeEntry → NodeEntry) (s : State) : RequestFrame s (mapNodes p f s) := by
  constructor <;> simp [mapNodes]

theorem nodeResult_frame (r : FrameResult) (a : Byte) (s : State) : RequestFrame s (nodeResult r a s) := by
  unfold nodeResult
  split
  · exact (mapNodes_frame _ _ s).trans (setEvent_requestFrame _ _)
  · exact mapNodes_frame _ _ s

theorem complete_frame (k : Fin 32) (o : RequestOutcome) (b : Bool) (s : State) : RequestFrame s (complete k o b s) := by
  constructor <;> simp [complete, setEvent, setSlot, setTimer, dropRefs, mapNodes]

theorem returnOrExpire_frame (k : Fin 32) (s : State) : RequestFrame s (returnOrExpire k s) := by
  unfold returnOrExpire
  split
  · exact complete_frame _ _ _ s
  · exact setSlot_frame _ _ s

theorem arbLostEnd_frame (k : Fin 32) (s : State) : RequestFrame s (arbLostEnd k s) := by
  unfold arbLostEnd
  dsimp only
  split
  · exact (setSlot_frame _ _ s).trans (complete_frame _ _ _ _)
  · exact (setSlot_frame _ _ s).trans (returnOrExpire_frame _ _)

theorem tableEnd_frame (k : Fin 32) (r : FrameResult) (won : Bool) (s : State) : RequestFrame s (tableEnd k r won s) := by
  unfold tableEnd
  dsimp only
  split
  · exact complete_frame _ _ _ s
  split
  · exact complete_frame _ _ _ s
  split
  · split
    · exact (setSlot_frame _ _ s).trans (returnOrExpire_frame _ _)
    · exact returnOrExpire_frame _ s
  split
  · exact complete_frame _ _ _ s
  split
  · exact complete_frame _ _ _ s
  split
  · exact returnOrExpire_frame _ s
  · exact complete_frame _ _ _ s

theorem attemptEnd_frame (k : Fin 32) (r : FrameResult) (won : Bool) (s : State) :
    RequestFrame s (attemptEnd k r won s) := by
  unfold attemptEnd
  split
  · exact arbLostEnd_frame _ s
  · exact tableEnd_frame _ _ _ s

theorem completeAll_frame (l : List (Fin 32)) : ∀ s : State, RequestFrame s (completeAll l s) := by
  induction l with
  | nil => exact RequestFrame.refl
  | cons k rest ih => intro s; exact (complete_frame _ _ _ s).trans (ih _)

theorem flush_frame (a : Byte) (s : State) : RequestFrame s (flush a s) := completeAll_frame _ s

theorem placeRequest_frame (k : Fin 32) (q : QueueName) (c : List Frame) (s : State) :
    RequestFrame s (placeRequest k q c s) := by
  constructor <;> simp [placeRequest, setTimer, raiseRefs, mapNodes, setSlot]

theorem activate_frame (q : QueueName) (k : Fin 32) (s : State) : RequestFrame s (activate q k s) := by
  constructor <;> simp [activate, engineTake, setSlot]

theorem chooseRounds_frame (n : Nat) : ∀ s : State, RequestFrame s (chooseRounds n s) := by
  induction n with
  | zero => exact RequestFrame.refl
  | succ n ih =>
    intro s
    unfold chooseRounds
    split
    · split
      · exact RequestFrame.refl s
      · split
        · exact RequestFrame.refl s
        · split
          · exact (complete_frame _ _ _ s).trans (ih _)
          · exact activate_frame _ _ s
    · exact RequestFrame.refl s

theorem choose_frame (s : State) : RequestFrame s (choose s) := chooseRounds_frame _ s

/-- Without the conditions of a choice nothing is chosen. -/
theorem choose_closed {s : State} (h : choiceOpen s = false) : choose s = s := by
  unfold choose chooseRounds
  simp [h]

/-! ### The engine -/

theorem setEngine_frame (s : State) (e : Engine) : RequestFrame s (s.setEngine e) := by constructor <;> simp

theorem engineToIdle_frame (s : State) : EngineFrame s (engineToIdle s) := by
  unfold engineToIdle
  dsimp only
  split
  · constructor <;> simp [stopEnds, setEvent, lineRestart]
  · exact (setEngine_frame s _).engine

/-- The engine is IDLE, with every other item at its IDLE value, after it enters IDLE. -/
theorem engineToIdle_engine (s : State) : (engineToIdle s).engine = s.engine.idled := by
  unfold engineToIdle
  dsimp only
  split <;> simp [stopEnds, setEvent, lineRestart]

theorem acceptFrame_frame (k : Fin 32) (i : Nat) (f : Frame) (s : State) : RequestFrame s (acceptFrame k i f s) :=
  setSlot_frame _ _ s

theorem linkNext_frame (k : Fin 32) (s : State) : RequestFrame s (linkNext k s) := setEngine_frame s _

theorem engineAfter_frame (r : FrameResult) (s : State) : EngineFrame s (engineAfter r s) := by
  cases r <;> first | exact engineToIdle_frame s | exact (setEngine_frame s _).engine

theorem endAttempt_frame (k : Fin 32) (r : FrameResult) (a : Byte) (b : Bool) (s : State) :
    RequestFrame s (endAttempt k r a b s) := by
  unfold endAttempt
  dsimp only
  split
  · exact (attemptEnd_frame _ _ _ s).trans (flush_frame _ _)
  · exact attemptEnd_frame _ _ _ s

theorem reportResult_frame (r : FrameResult) (s : State) : EngineFrame s (reportResult r s) := by
  unfold reportResult
  split
  · exact engineAfter_frame r s
  · split
    · exact engineAfter_frame r s
    · rename_i k _ _ f _
      have h1 : RequestFrame s (if r = .accepted then acceptFrame k s.engine.frameIndex f s else s) := by
        split
        · exact acceptFrame_frame _ _ _ s
        · exact RequestFrame.refl s
      dsimp only
      generalize (if r = .accepted then acceptFrame k s.engine.frameIndex f s else s) = u at h1 ⊢
      have h2 := h1.trans (nodeResult_frame r f.dest u)
      split
      · exact (h2.trans (linkNext_frame _ _)).engine
      · exact (h2.trans (endAttempt_frame _ _ _ _ _)).engine.trans (engineAfter_frame _ _)

theorem arbitrationWon_frame (s : State) : RequestFrame s (arbitrationWon s) := by
  unfold arbitrationWon
  dsimp only
  split
  · exact setEngine_frame s _
  · exact (setEngine_frame s _).trans (setSlot_frame _ _ _)

theorem claimAtEngine_frame (c : ClaimCode) (s : State) : RequestFrame s (claimAtEngine c s) := by
  unfold claimAtEngine
  dsimp only
  split <;> exact setEngine_frame s _

theorem afterBit_frame (b : Bool) (s : State) : RequestFrame s (afterBit b s) := by
  unfold afterBit
  dsimp only
  split
  · split
    · exact arbitrationWon_frame s
    · exact RequestFrame.refl s
  · split
    · exact setEngine_frame s _
    · exact RequestFrame.refl s
  · split
    · exact setEngine_frame s _
    · split
      · exact claimAtEngine_frame _ s
      · exact RequestFrame.refl s
  · split
    · exact setEngine_frame s _
    · exact RequestFrame.refl s
  · split
    · exact setEngine_frame s _
    · exact RequestFrame.refl s
  · exact setEngine_frame s _
  · exact RequestFrame.refl s

theorem engineTakeBit_frame (b : Bool) (s : State) : EngineFrame s (engineTakeBit b s) := by
  unfold engineTakeBit
  split
  · exact reportResult_frame _ s
  · split
    · exact reportResult_frame _ s
    · exact ((setEngine_frame s _).trans (afterBit_frame _ _)).engine

theorem engineRise_frame (b : Bool) (s : State) : EngineFrame s (engineRise b s) := by
  unfold engineRise
  dsimp only
  split
  · split
    · exact ((setEngine_frame s _).trans (setEngine_frame _ _)).engine
    · split
      · exact ((setEngine_frame s _).trans (setEngine_frame _ _)).engine
      · exact (setEngine_frame s _).engine.trans (reportResult_frame _ _)
    · exact (setEngine_frame s _).engine.trans (engineTakeBit_frame _ _)
  · exact (setEngine_frame s _).engine
  · exact EngineFrame.refl s

theorem bitEnds_frame (s : State) : EngineFrame s (bitEnds s) := by
  unfold bitEnds
  split
  · exact EngineFrame.refl s
  · exact (setEngine_frame s _).engine.trans (reportResult_frame _ _)

theorem leaveBoundary_frame (s : State) : RequestFrame s (leaveBoundary s) := by
  unfold leaveBoundary
  split
  · exact setEngine_frame s _
  · exact RequestFrame.refl s

theorem engineFall_frame (s : State) : EngineFrame s (engineFall s) := by
  unfold engineFall
  split
  · exact (bitEnds_frame s).trans (setEngine_frame _ _).engine
  · exact ((setEngine_frame s _).trans (setEngine_frame _ _)).engine
  · exact ((leaveBoundary_frame s).trans (setEngine_frame _ _)).engine
  · exact ((leaveBoundary_frame s).trans (setEngine_frame _ _)).engine
  · exact ((leaveBoundary_frame s).trans (setEngine_frame _ _)).engine
  · exact (setEngine_frame s _).engine
  · exact EngineFrame.refl s

theorem engineCondition_frame (s : State) : EngineFrame s (engineCondition s) := by
  unfold engineCondition
  split
  · exact reportResult_frame _ s
  · exact EngineFrame.refl s

theorem engineStopSeen_frame (s : State) : EngineFrame s (engineStopSeen s) := by
  unfold engineStopSeen
  split
  · exact engineToIdle_frame s
  · exact engineCondition_frame s

theorem waitTimeoutEvent_frame (s : State) : EngineFrame s (waitTimeoutEvent s) := by
  unfold waitTimeoutEvent
  split
  · exact (reportResult_frame _ s).trans (choose_frame _).engine
  · exact EngineFrame.refl s

theorem engineStuck_frame (s : State) : EngineFrame s (engineStuck s) := by
  unfold engineStuck
  split
  · exact reportResult_frame _ s
  · split
    · exact EngineFrame.refl s
    · exact engineToIdle_frame s

/-! ### The Responder -/

theorem setResponder_frame (s : State) (r : Responder) : ResponderFrame s (s.setResponder r) := by constructor <;> simp
theorem setHold_frame (s : State) (h : HoldUnit) : ResponderFrame s (s.setHold h) := by constructor <;> simp
theorem setWindow_frame (i : Fin 8) (w : Window) (s : State) : ResponderFrame s (setWindow i w s) := by
  constructor <;> simp [setWindow]

theorem endWindowFrame_frame (i : Fin 8) (s : State) : ResponderFrame s (endWindowFrame i s) := by
  unfold endWindowFrame
  dsimp only
  split
  · exact (setWindow_frame _ _ s).trans (setEvent_responderFrame _ _)
  · exact setWindow_frame _ _ s

theorem endAllFrames_frame (s : State) : ResponderFrame s (endAllFrames s) := by
  unfold endAllFrames
  dsimp only
  split <;> constructor <;> simp [setEvent]

theorem giveUpFrame_frame (s : State) : ResponderFrame s (giveUpFrame s) :=
  ((endAllFrames_frame s).trans (setResponder_frame _ _)).trans (setHold_frame _ _)

theorem responderOff_frame (s : State) : ResponderFrame s (responderOff s) :=
  (giveUpFrame_frame s).trans (setResponder_frame _ _)

/-- The Responder is OFF after it enters OFF, and drives neither line. -/
theorem responderOff_released (s : State) :
    (responderOff s).responder.st = .off ∧ (responderOff s).responder.driveSbck = false ∧
      (responderOff s).responder.driveSbdt = false ∧ (responderOff s).responder.delay = none ∧
      (responderOff s).responder.release = none := by
  simp [responderOff, giveUpFrame, Responder.cleared]

theorem responderListen_frame (s : State) : ResponderFrame s (responderListen s) := setResponder_frame s _

theorem breakFrame_frame (s : State) : ResponderFrame s (breakFrame s) := by
  unfold breakFrame
  split
  · exact giveUpFrame_frame s
  · exact ResponderFrame.refl s

theorem responderStart_frame (s : State) : ResponderFrame s (responderStart s) := by
  unfold responderStart
  split
  · exact ResponderFrame.refl s
  · exact (breakFrame_frame s).trans (setResponder_frame _ _)

theorem responderClose_frame (s : State) : ResponderFrame s (responderClose s) := by
  unfold responderClose
  split
  · exact ResponderFrame.refl s
  · exact (breakFrame_frame s).trans (responderListen_frame _)

theorem beginFrame_frame (i : Fin 8) (s : State) : ResponderFrame s (beginFrame i s) := by
  unfold beginFrame
  split
  · exact (setResponder_frame s _).trans (setWindow_frame _ _ _)
  · exact ((setHold_frame s _).trans (setResponder_frame _ _)).trans (setWindow_frame _ _ _)
  · exact ResponderFrame.refl s

theorem showReasons_frame (i : Fin 8) (s : State) : ResponderFrame s (showReasons i s) := setHold_frame s _

theorem enterClaiming_frame (c : ClaimCode) (s : State) : ResponderFrame s (enterClaiming c s) := setResponder_frame s _

theorem beginStall_frame (i : Fin 8) (s : State) : ResponderFrame s (beginStall i s) :=
  (((showReasons_frame i s).trans (setHold_frame _ _)).trans (setResponder_frame _ _)).trans (setEvent_responderFrame _ _)

theorem applyDecision_frame (i : Fin 8) (s : State) : ResponderFrame s (applyDecision i s) := by
  unfold applyDecision
  dsimp only
  split
  · exact (setResponder_frame s _).trans (enterClaiming_frame _ _)
  · exact ((setResponder_frame s _).trans (beginFrame_frame _ _)).trans (enterClaiming_frame _ _)
  · exact ((setResponder_frame s _).trans (showReasons_frame _ _)).trans (enterClaiming_frame _ _)
  · exact (setResponder_frame s _).trans (beginStall_frame _ _)

theorem clashCheck_frame (s : State) : ResponderFrame s (clashCheck s) := by
  unfold clashCheck
  split
  · exact setEvent_responderFrame _ s
  · exact ResponderFrame.refl s

theorem decideClaim_frame (s : State) : ResponderFrame s (decideClaim s) := by
  unfold decideClaim
  split
  · exact setResponder_frame s _
  · dsimp only
    split
    · exact (clashCheck_frame s).trans (setResponder_frame _ _)
    · exact (clashCheck_frame s).trans (applyDecision_frame _ _)

theorem discardWrite_frame (s : State) : ResponderFrame s (discardWrite s) := by
  unfold discardWrite
  dsimp only
  split
  · exact (setResponder_frame s _).trans (setHold_frame _ _)
  · exact ((setResponder_frame s _).trans (setHold_frame _ _)).trans (endWindowFrame_frame _ _)

theorem commitWrite_frame (i : Fin 8) (s : State) : ResponderFrame s (commitWrite i s) := by
  unfold commitWrite
  dsimp only
  have hp : ResponderFrame s (s.setPage (commitBytes s i)) := by constructor <;> simp
  split
  · exact (((hp.trans (setHold_frame _ _)).trans (setEvent_responderFrame .notify _)).trans (setResponder_frame _ _)).trans
      (endWindowFrame_frame _ _)
  · exact (hp.trans (setResponder_frame _ _)).trans (endWindowFrame_frame _ _)

theorem commitNow_frame (s : State) : ResponderFrame s (commitNow s) := by
  unfold commitNow
  split
  · split
    · exact commitWrite_frame _ s
    · exact ResponderFrame.refl s
  · exact ResponderFrame.refl s

theorem dropFrame_frame (s : State) : ResponderFrame s (dropFrame s) := by
  unfold dropFrame
  split
  · exact ResponderFrame.refl s
  · split
    · exact ((setResponder_frame s _).trans (setHold_frame _ _)).trans (endWindowFrame_frame _ _)
    · exact ResponderFrame.refl s

/-- A frame that ends with its window not in-frame leaves nothing to discard. -/
theorem dropFrame_ended {s : State} (h : ∀ i, s.responder.window = some i → (windowOf s i).inFrame = false) :
    dropFrame s = s := by
  unfold dropFrame
  split
  · rfl
  · rename_i i hi; simp [h i hi]

theorem frameOver_frame (s : State) : ResponderFrame s (frameOver s) := setResponder_frame s _
theorem enterPassive_frame (s : State) : ResponderFrame s (enterPassive s) := setResponder_frame s _

theorem claimTaken_frame (c : ClaimCode) (s : State) : ResponderFrame s (claimTaken c s) := by
  unfold claimTaken
  dsimp only
  split
  · split
    · split <;> exact ((setResponder_frame s _).trans (setHold_frame _ _)).trans (setResponder_frame _ _)
    · exact ((setResponder_frame s _).trans (setHold_frame _ _)).trans (enterPassive_frame _)
  · exact (((setResponder_frame s _).trans (setHold_frame _ _)).trans (dropFrame_frame _)).trans (frameOver_frame _)

theorem passiveBit_frame (p : Nat) (b : Bool) (s : State) : ResponderFrame s (passiveBit p b s) := by
  unfold passiveBit
  dsimp only
  split
  · exact setResponder_frame s _
  · split
    · split
      · exact setResponder_frame s _
      · exact (setResponder_frame s _).trans (frameOver_frame _)
    · split
      · exact frameOver_frame s
      · exact ResponderFrame.refl s

theorem sendingBit_frame (p : Nat) (b : Bool) (s : State) : ResponderFrame s (sendingBit p b s) := by
  unfold sendingBit
  dsimp only
  split <;> split
  · exact (setResponder_frame s _).trans (setResponder_frame _ _)
  · exact setResponder_frame s _
  · exact setResponder_frame s _
  · exact ResponderFrame.refl s

theorem receivingBit_frame (p : Nat) (b : Bool) (s : State) : ResponderFrame s (receivingBit p b s) := by
  unfold receivingBit
  dsimp only
  split
  · exact setResponder_frame s _
  · split
    · split
      · exact (setResponder_frame s _).trans (setResponder_frame _ _)
      · exact ((setResponder_frame s _).trans (setResponder_frame _ _)).trans (discardWrite_frame _)
    · exact setResponder_frame s _

theorem confirmingBit_frame (s : State) : ResponderFrame s (confirmingBit s) := by
  unfold confirmingBit
  split
  · exact endWindowFrame_frame _ s
  · exact ResponderFrame.refl s

theorem decodingBit_frame (p : Nat) (b : Bool) (s : State) : ResponderFrame s (decodingBit p b s) := by
  unfold decodingBit
  dsimp only
  split
  · exact (setResponder_frame s _).trans (decideClaim_frame _)
  · exact setResponder_frame s _

theorem responderRise_frame (b : Bool) (s : State) : ResponderFrame s (responderRise b s) := by
  unfold responderRise
  dsimp only
  split
  · exact ResponderFrame.refl s
  · exact setResponder_frame s _
  · split
    · exact (setResponder_frame s _).trans (decodingBit_frame _ _ _)
    · exact (setResponder_frame s _).trans (passiveBit_frame _ _ _)
    · split
      · exact (setResponder_frame s _).trans (setResponder_frame _ _)
      · exact (setResponder_frame s _).trans (claimTaken_frame _ _)
    · exact (setResponder_frame s _).trans (sendingBit_frame _ _ _)
    · exact (setResponder_frame s _).trans (receivingBit_frame _ _ _)
    · exact (setResponder_frame s _).trans (confirmingBit_frame _)
    · exact setResponder_frame s _
    · exact setResponder_frame s _
    · exact setResponder_frame s _

theorem responseOver_frame (s : State) : ResponderFrame s (responseOver s) :=
  (dropFrame_frame s).trans (setResponder_frame _ _)

theorem responderFall_frame (s : State) : ResponderFrame s (responderFall s) := by
  unfold responderFall
  dsimp only
  split
  · exact ResponderFrame.refl s
  · exact setResponder_frame s _
  · split
    · exact responseOver_frame s
    · exact setResponder_frame s _
  all_goals exact setResponder_frame s _

end Sys2Proof.Machine
end

