-- ==== Sys2Proof/Laws/Host.lean ====
section
/-! SUPPORT. The Host Port stands apart: no block below it reads it, so a command's effect and its posted result can be taken one after the other. -/

namespace Sys2Proof.Machine

/-! ### Reads of the other blocks -/

section
variable (s : State) (h : HostPort)
@[simp] theorem slotOf_setHost (k : Fin 32) : slotOf (s.setHost h) k = slotOf s k := rfl
@[simp] theorem timerOf_setHost (k : Fin 32) : timerOf (s.setHost h) k = timerOf s k := rfl
@[simp] theorem windowOf_setHost (i : Fin 8) : windowOf (s.setHost h) i = windowOf s i := rfl
@[simp] theorem reasonHeldFor_setHost (i : Fin 8) : reasonHeldFor (s.setHost h) i = reasonHeldFor s i := rfl
@[simp] theorem reasonFullFor_setHost (i : Fin 8) (k : Option Kind) : reasonFullFor (s.setHost h) i k = reasonFullFor s i k := rfl
@[simp] theorem stallingFor_setHost (i : Fin 8) : stallingFor (s.setHost h) i = stallingFor s i := rfl
@[simp] theorem frameKind_setHost : frameKind (s.setHost h) = frameKind s := rfl
@[simp] theorem frameLen_setHost : frameLen (s.setHost h) = frameLen s := rfl
@[simp] theorem unusedEntry_setHost : unusedEntry (s.setHost h) = unusedEntry s := rfl
@[simp] theorem submitCheck_setHost : submitCheck (s.setHost h) = submitCheck s := rfl
@[simp] theorem findNode_setHost (a : Byte) : findNode a (s.setHost h) = findNode a s := rfl
@[simp] theorem nodeAt_setHost (a : Byte) : nodeAt a (s.setHost h) = nodeAt a s := rfl
@[simp] theorem nodeState_setHost (a : Byte) : nodeState a (s.setHost h) = nodeState a s := rfl
@[simp] theorem findTag_setHost (t : Byte) : findTag t (s.setHost h) = findTag t s := rfl
@[simp] theorem nodeTarget_setHost (arg : BitVec 16) : nodeTarget arg (s.setHost h) = nodeTarget arg s := rfl
@[simp] theorem cancelTarget_setHost (arg : BitVec 16) : cancelTarget arg (s.setHost h) = cancelTarget arg s := rfl
@[simp] theorem enabledWith_setHost (n : Byte) : enabledWith n (s.setHost h) = enabledWith n s := rfl

theorem searchTag_setHost (n : Nat) : ∀ t, searchTag (s.setHost h) n t = searchTag s n t := by
  induction n with
  | zero => intro t; rfl
  | succ n ih => intro t; simp only [searchTag, findTag_setHost, ih]

@[simp] theorem assignTag_setHost : assignTag (s.setHost h) = assignTag s := searchTag_setHost s h 32 _
end

/-! ### Operations that do not read the Host Port -/

theorem oldestEligible_setHost (s : State) (h : HostPort) (l : List (Fin 32)) :
    ∀ older, oldestEligible (s.setHost h) older l = oldestEligible s older l := by
  induction l with
  | nil => intro older; rfl
  | cons k rest ih =>
    intro older
    show (if eligible s older k then some k else oldestEligible (s.setHost h) (older ++ [k]) rest) = _
    rw [ih]; rfl

theorem candidate_setHost (s : State) (h : HostPort) (q : QueueName) : candidate (s.setHost h) q = candidate s q :=
  oldestEligible_setHost s h _ _

theorem hasCandidate_setHost (s : State) (h : HostPort) (q : QueueName) :
    hasCandidate (s.setHost h) q = hasCandidate s q := by
  unfold hasCandidate; rw [candidate_setHost]

theorem chosenQueue_setHost (s : State) (h : HostPort) : chosenQueue (s.setHost h) = chosenQueue s := by
  unfold chosenQueue; simp only [hasCandidate_setHost]; rfl

theorem updatePasses_setHost (s : State) (h : HostPort) (q : QueueName) :
    updatePasses (s.setHost h) q = updatePasses s q := by
  cases q <;> simp only [updatePasses, hasCandidate_setHost] <;> rfl

theorem complete_setHost (k : Fin 32) (o : RequestOutcome) (b : Bool) (s : State) (h : HostPort) :
    complete k o b (s.setHost h) = (complete k o b s).setHost h := rfl

theorem activate_setHost (q : QueueName) (k : Fin 32) (s : State) (h : HostPort) :
    activate q k (s.setHost h) = (activate q k s).setHost h := by
  unfold activate; rw [updatePasses_setHost]; rfl

theorem chooseRounds_setHost (h : HostPort) (n : Nat) :
    ∀ s : State, chooseRounds n (s.setHost h) = (chooseRounds n s).setHost h := by
  induction n with
  | zero => intro s; rfl
  | succ n ih =>
    intro s
    unfold chooseRounds
    rw [show choiceOpen (s.setHost h) = choiceOpen s from rfl, chosenQueue_setHost]
    split
    · split
      · rfl
      · rw [candidate_setHost]
        split
        · rfl
        · rename_i k _
          rw [show localTarget (s.setHost h) (slotOf (s.setHost h) k).chain = localTarget s (slotOf s k).chain from rfl]
          split
          · rw [complete_setHost, ih]
          · exact activate_setHost ..
    · rfl

/-- A choice neither reads nor changes the Host Port. -/
theorem choose_setHost (s : State) (h : HostPort) : choose (s.setHost h) = (choose s).setHost h :=
  chooseRounds_setHost h 33 s

/-! ### A command in an open write transaction (R186, R189) -/

/-- What a command leaves: its effect, with the result posted and the pointer and the counter raised. -/
theorem hostCommand_open {s : State} (w : WriteOpen 0x004 s) (body : State → Reply) :
    hostCommand body s = pointerUp (runCommand body s) := by
  obtain ⟨a, b⟩ := w
  simp [hostCommand, wordWrite, canWrite, a, b]

/-- A command outside an open write transaction at the command word cannot come (log 1, 13). -/
theorem hostCommand_closed {s : State} (h : s.host.txn ≠ .writing) (body : State → Reply) : hostCommand body s = s := by
  simp [hostCommand, wordWrite, canWrite, h]

/-- A body that leaves the Host Port as it found it: the next state is its state with the result posted. -/
theorem runCommand_posted {s t : State} {body : State → Reply} {c : ResultCode} {v : Byte}
    (h : body (s.setHost { s.host with counter := s.host.counter + 1 }) =
      { state := t.setHost { s.host with counter := s.host.counter + 1 }, code := c, value := v }) :
    pointerUp (runCommand body s) = t.setHost (posted c v s.host) := by
  unfold runCommand; rw [h]; rfl

end Sys2Proof.Machine
end

