-- ==== Sys2Proof/Laws/Memory.lean ====
section
/-! SUPPORT. Page memory: its operations keep the canonical form, and a write is read back. -/

namespace Sys2Proof.Machine

/-- A list well formed from an address up is well formed from any lower one. -/
theorem Memory.wfFrom_mono {lo lo' : Nat} (h : lo' ≤ lo) : ∀ {m : Memory}, Memory.wfFrom lo m = true → Memory.wfFrom lo' m = true
  | [], _ => rfl
  | (k, b) :: rest, hm => by
    simp only [Memory.wfFrom, Bool.and_eq_true, decide_eq_true_eq] at hm ⊢
    obtain ⟨⟨⟨h1, h2⟩, h3⟩, h4⟩ := hm
    exact ⟨⟨⟨by omega, h2⟩, h3⟩, h4⟩

/-- Inserting a byte inside page memory keeps the canonical form. -/
theorem Memory.insert_wf {a : Nat} {b : Byte} (ha : a < Config.pageBytes) :
    ∀ {m : Memory} {lo : Nat}, lo ≤ a → Memory.wfFrom lo m = true → Memory.wfFrom lo (m.insert a b) = true
  | [], lo, hlo, _ => by
    by_cases hb : b = Memory.unlisted <;> simp [Memory.insert, hb, Memory.wfFrom, hlo, ha]
  | (k, v) :: rest, lo, hlo, hm => by
    simp only [Memory.wfFrom, Bool.and_eq_true, decide_eq_true_eq] at hm
    obtain ⟨⟨⟨h1, h2⟩, h3⟩, h4⟩ := hm
    unfold Memory.insert
    split
    · rename_i hlt
      split
      · simp only [Memory.wfFrom, Bool.and_eq_true, decide_eq_true_eq]; exact ⟨⟨⟨h1, h2⟩, h3⟩, h4⟩
      · rename_i hb
        simp only [Memory.wfFrom, Bool.and_eq_true, decide_eq_true_eq]
        exact ⟨⟨⟨hlo, ha⟩, hb⟩, ⟨⟨⟨by omega, h2⟩, h3⟩, h4⟩⟩
    · rename_i hge
      split
      · rename_i heq
        split
        · exact Memory.wfFrom_mono (by omega) h4
        · rename_i hb
          simp only [Memory.wfFrom, Bool.and_eq_true, decide_eq_true_eq]
          exact ⟨⟨⟨hlo, ha⟩, hb⟩, heq ▸ h4⟩
      · rename_i hne
        simp only [Memory.wfFrom, Bool.and_eq_true, decide_eq_true_eq]
        exact ⟨⟨⟨h1, h2⟩, h3⟩, Memory.insert_wf ha (by omega) h4⟩

/-- A byte written keeps the canonical form, at any address. -/
theorem Memory.write_wf {m : Memory} (a : Nat) (b : Byte) (h : m.wf = true) : (m.write a b).wf = true := by
  unfold Memory.write
  split
  · exact Memory.insert_wf (by assumption) (Nat.zero_le a) h
  · exact h

/-- Bytes written keep the canonical form. -/
theorem Memory.writeBytes_wf (l : List Byte) : ∀ (m : Memory) (a : Nat), m.wf = true → (m.writeBytes a l).wf = true := by
  induction l with
  | nil => intro m a h; exact h
  | cons b rest ih => intro m a h; exact ih _ _ (Memory.write_wf a b h)

/-- A word written keeps the canonical form. -/
theorem Memory.writeWord_wf (m : Memory) (n : Nat) (w : Word) (h : m.wf = true) : (m.writeWord n w).wf = true :=
  Memory.writeBytes_wf _ _ _ h

/-- Below its first listed byte a memory reads as unlisted. -/
theorem Memory.read_below {a : Nat} : ∀ {m : Memory} {lo : Nat}, Memory.wfFrom lo m = true → a < lo → m.read a = Memory.unlisted
  | [], _, _, _ => rfl
  | (k, b) :: rest, lo, hm, ha => by
    simp only [Memory.wfFrom, Bool.and_eq_true, decide_eq_true_eq] at hm
    obtain ⟨⟨⟨h1, h2⟩, h3⟩, h4⟩ := hm
    have hk : ¬ k = a := by omega
    simp only [Memory.read, hk, if_false]
    exact Memory.read_below h4 (by omega)

/-- What an insertion into a canonical memory reads as. -/
theorem Memory.read_insert {a : Nat} {b : Byte} (x : Nat) :
    ∀ {m : Memory} {lo : Nat}, Memory.wfFrom lo m = true → (m.insert a b).read x = if x = a then b else m.read x
  | [], _, _ => by
    by_cases hx : x = a
    · subst hx
      by_cases hb : b = Memory.unlisted <;> simp [Memory.insert, Memory.read, hb]
    · have : ¬ a = x := fun e => hx e.symm
      by_cases hb : b = Memory.unlisted <;> simp [Memory.insert, Memory.read, hb, hx, this]
  | (k, v) :: rest, lo, hm => by
    simp only [Memory.wfFrom, Bool.and_eq_true, decide_eq_true_eq] at hm
    obtain ⟨⟨⟨h1, h2⟩, h3⟩, h4⟩ := hm
    unfold Memory.insert
    split
    · rename_i hlt
      have hbelow : Memory.read ((k, v) :: rest) a = Memory.unlisted := by
        have hk : ¬ k = a := by omega
        simp only [Memory.read, hk, if_false]
        exact Memory.read_below h4 (by omega)
      split
      · rename_i hb
        by_cases hx : x = a
        · subst hx; simp [hbelow, hb]
        · simp [hx]
      · by_cases hx : x = a
        · subst hx; simp [Memory.read]
        · have : ¬ a = x := fun e => hx e.symm
          simp [Memory.read, hx, this]
    · rename_i hge
      split
      · rename_i heq
        subst heq
        have hrest : Memory.read rest a = Memory.unlisted := Memory.read_below h4 (by omega)
        split
        · rename_i hb
          by_cases hx : x = a
          · subst hx; simp [hrest, hb]
          · have : ¬ a = x := fun e => hx e.symm
            simp [Memory.read, hx, this]
        · by_cases hx : x = a
          · subst hx; simp [Memory.read]
          · have : ¬ a = x := fun e => hx e.symm
            simp [Memory.read, hx, this]
      · rename_i hne
        by_cases hk : k = x
        · have hx : ¬ x = a := by omega
          simp [Memory.read, hk, hx]
        · simp only [Memory.read, hk, if_false]
          exact Memory.read_insert x h4

/-- A byte of a canonical memory after a write: the byte written, and every other as before. -/
theorem Memory.read_write {m : Memory} (a x : Nat) (b : Byte) (h : m.wf = true) (ha : a < Config.pageBytes) :
    (m.write a b).read x = if x = a then b else m.read x := by
  unfold Memory.write
  simp only [ha, if_true]
  exact Memory.read_insert x h

/-- A byte outside the ones written reads as before. -/
theorem Memory.read_writeBytes_outside (x : Nat) (l : List Byte) :
    ∀ (m : Memory) (a : Nat), m.wf = true → (x < a ∨ a + l.length ≤ x) → (m.writeBytes a l).read x = m.read x := by
  induction l with
  | nil => intro m a _ _; rfl
  | cons b rest ih =>
    intro m a h hx
    simp only [List.length_cons] at hx
    simp only [Memory.writeBytes]
    rw [ih _ _ (Memory.write_wf a b h) (by omega)]
    by_cases ha : a < Config.pageBytes
    · rw [Memory.read_write a x b h ha]
      have : ¬ x = a := by omega
      simp [this]
    · simp [Memory.write, ha]

/-- A byte among the ones written reads as written. -/
theorem Memory.read_writeBytes_inside (l : List Byte) :
    ∀ (m : Memory) (a j : Nat), m.wf = true → a + l.length ≤ Config.pageBytes → (hj : j < l.length) →
      (m.writeBytes a l).read (a + j) = l[j] := by
  induction l with
  | nil => intro m a j _ _ hj; simp at hj
  | cons b rest ih =>
    intro m a j h hl hj
    simp only [List.length_cons] at hl hj
    simp only [Memory.writeBytes]
    cases j with
    | zero =>
      rw [Memory.read_writeBytes_outside _ _ _ _ (Memory.write_wf a b h) (by omega)]
      rw [Memory.read_write a _ b h (by omega)]
      simp
    | succ i =>
      have e : a + (i + 1) = a + 1 + i := by omega
      rw [e, ih (m.write a b) (a + 1) i (Memory.write_wf a b h) (by omega) (by omega)]
      simp

end Sys2Proof.Machine
end

