-- ==== Sys2Proof/Laws/Rises.lean ====
section
/-! SUPPORT. When no choice can follow, and what a rise of SBCK is to the blocks of the part, one after the other. -/

namespace Sys2Proof.Machine

/-! ### No choice -/

theorem choose_not_idle {s : State} (h : s.engine.st ≠ .idle) : choose s = s :=
  choose_closed (by simp [choiceOpen, h])

theorem choose_not_running {s : State} (h : s.port.state ≠ .running) : choose s = s :=
  choose_closed (by simp [choiceOpen, h])

theorem choose_not_quiet {s : State} (h : s.line.state ≠ .quiet) : choose s = s :=
  choose_closed (by simp [choiceOpen, h])

/-- The engine's entry into IDLE does not make the line QUIET. -/
theorem engineToIdle_not_quiet {s : State} (h : s.line.state ≠ .quiet) : (engineToIdle s).line.state ≠ .quiet := by
  unfold engineToIdle
  simp only
  split
  · simp [stopEnds, lineRestart, setEvent, Line.restarted]
  · simpa using h

/-- Handing a frame result on does not make the line QUIET. -/
theorem reportResult_not_quiet {s : State} (r : FrameResult) (h : s.line.state ≠ .quiet) :
    (reportResult r s).line.state ≠ .quiet := by
  have after : ∀ t : State, t.line.state ≠ .quiet → (engineAfter r t).line.state ≠ .quiet := by
    intro t ht
    cases r <;> first | exact engineToIdle_not_quiet ht | exact ht
  unfold reportResult
  split
  · exact after _ h
  · split
    · exact after _ h
    · rename_i k _ _ f _
      have h1 : ((if r = .accepted then acceptFrame k s.engine.frameIndex f s else s) : State).line = s.line := by
        split
        · exact (acceptFrame_frame ..).line
        · rfl
      have h2 : ∀ (x : State), (if r = .accepted ∧ restartWanted (slotOf x k) s.engine.frameIndex x
          then linkNext k x
          else engineAfter r (endAttempt k r f.dest
            (resultSuspends r f.dest (if r = .accepted then acceptFrame k s.engine.frameIndex f s else s)) x)).line.state ≠
          .quiet ∨ x.line.state = .quiet := by
        intro x
        by_cases hx : x.line.state = .quiet
        · exact .inr hx
        · left
          split
          · rw [(linkNext_frame ..).line]; exact hx
          · apply after; rw [(endAttempt_frame ..).line]; exact hx
      rcases h2 (nodeResult r f.dest (if r = .accepted then acceptFrame k s.engine.frameIndex f s else s)) with h3 | h3
      · exact h3
      · rw [(nodeResult_frame ..).line, h1] at h3; exact absurd h3 h

/-! ### A rise of SBCK -/

/-- The parts of `RiseComes` that make the rise possible. -/
theorem canRise_of {u : State} {b : Bool} (h : RiseComes u b) : canRise u = true := by
  obtain ⟨a, b, c, d, _⟩ := h
  simp [canRise, ownSbck, a, b, c, d]

/-- A rise in a named case: the engine takes it first, then the Responder. -/
theorem riseCase_taken {s : State} {b : Bool} {p : State → Bool} (h : RiseComes (responderCountEnd s) b)
    (hp : p (responderCountEnd s) = true) :
    riseCase p s =
      choose (recoveryRise b (responderRise b (engineRise b (sbckHigh (responderCountEnd s))))) := by
  have hb : (responderCountEnd s).line.sbdt = b := h.2.2.2.2.1
  simp [riseCase, riseEvent, canRise_of h, hp, clockRises, hb]

/-- A recovery that is not running takes no rise. -/
theorem recoveryRise_none {s : State} (b : Bool) (h : s.port.recovery = .none) : recoveryRise b s = s := by
  simp [recoveryRise, h]

/-- A Responder that waits for no count is as it was when its count ends. -/
theorem responderCountEnd_settled {s : State} (h : s.responder.delay = none) (h' : s.responder.release = none) :
    responderCountEnd s = s := by
  simp [responderCountEnd, responderSets, responderReleases, h, h']

/-! ### The engine at a rise -/

theorem sbckHigh_engine (u : State) : (sbckHigh u).engine = u.engine := rfl

/-- With SBCK read high and the wait over, the part is `risen`. -/
theorem sbckHigh_waitOver (u : State) :
    (sbckHigh u).setEngine { (sbckHigh u).engine with waitTimer := none } = risen u := rfl

/-- An engine that waits inside a frame takes the bit. -/
theorem engineRise_bit {u : State} (b : Bool) (h : u.engine.phase = .waiting) (h1 : u.engine.st ≠ .stopping)
    (h2 : u.engine.st ≠ .linking) : engineRise b (sbckHigh u) = engineTakeBit b (risen u) := by
  have h0 : (sbckHigh u).engine.phase = .waiting := h
  unfold engineRise
  simp only [h0]
  split
  · rename_i e; exact absurd e h1
  · rename_i e; exact absurd e h2
  · rw [← sbckHigh_waitOver u, h0.symm]

/-- An engine that waits to produce its Restart finds that it cannot. -/
theorem engineRise_restartMissed {u : State} {b : Bool} (h : u.engine.phase = .waiting) (h2 : u.engine.st = .linking)
    (hb : restartReady u.engine b = false) : engineRise b (sbckHigh u) = reportResult .busFault (risen u) := by
  have h0 : (sbckHigh u).engine.phase = .waiting := h
  unfold engineRise
  simp only [h0]
  split
  · rename_i e; exact absurd ((show u.engine.st = .stopping from e).symm.trans h2) (by simp)
  · rw [← sbckHigh_waitOver u, h0.symm, sbckHigh_engine, hb]; simp
  · rename_i e; exact absurd h2 e

/-- An engine that produces no clock takes no rise. -/
theorem engineRise_none {u : State} (b : Bool) (h : u.engine.phase = .none) : engineRise b (sbckHigh u) = sbckHigh u := by
  have h0 : (sbckHigh u).engine.phase = .none := h
  unfold engineRise
  simp only [h0]

/-- A bit that the engine did not drive otherwise is taken. -/
theorem engineTakeBit_taken {s : State} {b : Bool} (h : s.engine.sent = none ∨ s.engine.sent = some b) :
    engineTakeBit b s = afterBit b (s.setEngine (takenBit s b)) := by
  unfold engineTakeBit
  rw [if_neg, if_neg]
  · rcases h with h | h <;> simp [mismatch, h]
  · rcases h with h | h <;> cases b <;> simp [losesArbitration, h]

end Sys2Proof.Machine
end

