-- ==== Sys2Proof/Laws/Tables.lean ====
section
/-! SUPPORT. Tables: reading an entry after an update, what a search finds, what a count counts. -/

namespace Sys2Proof.Machine

variable {α β : Type} {n : Nat}

@[simp] theorem tget_tset_same (v : Vector α n) (i : Fin n) (x : α) : tget (tset v i x) i = x := by
  simp [tget, tset]

@[simp] theorem tget_tset_ne (v : Vector α n) {i j : Fin n} (x : α) (h : j ≠ i) : tget (tset v i x) j = tget v j := by
  have h' : i.val ≠ j.val := fun e => h (Fin.ext e.symm)
  simp [tget, tset, h']

theorem tget_tset (v : Vector α n) (i j : Fin n) (x : α) :
    tget (tset v i x) j = if j = i then x else tget v j := by
  by_cases h : j = i
  · subst h; simp
  · simp [h]

@[simp] theorem tget_tmap (f : α → β) (v : Vector α n) (i : Fin n) : tget (tmap f v) i = f (tget v i) := by
  simp [tget, tmap]

@[simp] theorem tget_replicate (x : α) (i : Fin n) : tget (Vector.replicate n x) i = x := by simp [tget]

@[simp] theorem tset_self (v : Vector α n) (i : Fin n) : tset v i (tget v i) = v := by
  simp [tset, tget]

@[simp] theorem tset_tset (v : Vector α n) (i : Fin n) (x y : α) : tset (tset v i x) i y = tset v i y := by
  simp [tset]

/-- Two tables with the same entries are one. -/
theorem table_ext (v w : Vector α n) (h : ∀ i, tget v i = tget w i) : v = w := by
  apply Vector.ext
  intro i hi
  exact h ⟨i, hi⟩

/-- What a search finds satisfies its test. -/
theorem tfind_some {p : α → Bool} {v : Vector α n} {i : Fin n} (h : tfind p v = some i) : p (tget v i) = true := by
  have := List.find?_some h
  simpa using this

/-- A search finds nothing exactly where no entry satisfies the test. -/
theorem tfind_eq_none {p : α → Bool} {v : Vector α n} : tfind p v = none ↔ ∀ i, p (tget v i) = false := by
  simp [tfind]

/-- A search that some entry satisfies finds one. -/
theorem tfind_isSome {p : α → Bool} {v : Vector α n} : (tfind p v).isSome = true ↔ ∃ i, p (tget v i) = true := by
  constructor
  · intro h
    obtain ⟨i, hi⟩ := Option.isSome_iff_exists.mp h
    exact ⟨i, tfind_some hi⟩
  · rintro ⟨i, hi⟩
    cases h : tfind p v with
    | some j => rfl
    | none => rw [tfind_eq_none] at h; simp [h i] at hi

/-- A search finds the lowest index that satisfies the test. -/
theorem tfind_lowest {p : α → Bool} {v : Vector α n} {i : Fin n} (h : tfind p v = some i) {j : Fin n} (hj : j < i) :
    p (tget v j) = false := by
  unfold tfind at h
  rw [List.find?_eq_some_iff_append] at h
  obtain ⟨_, as, bs, hab, hno⟩ := h
  have hlen : as.length = i.val := by
    have h1 : (List.finRange n)[as.length]? = some i := by rw [hab]; simp
    have h2 := List.getElem?_eq_some_iff.mp h1
    obtain ⟨hl, he⟩ := h2
    have := congrArg Fin.val he
    simpa using this
  have hmem : j ∈ as := by
    have hjl : j.val < as.length := by omega
    have h3 : as[j.val] = j := by
      have h4 : (List.finRange n)[j.val]'(by simp) = j := by simp
      have h5 : (List.finRange n)[j.val]'(by simp) = as[j.val] := by
        simp only [hab]
        rw [List.getElem_append_left hjl]
      rw [← h5, h4]
    rw [← h3]
    exact List.getElem_mem hjl
  simpa using hno j hmem

/-- A list cut to a buffer: byte j of it, zero beyond its end. -/
theorem toBuffer_toList (l : List Byte) : (toBuffer n l).toList = (l ++ List.replicate n 0).take n := rfl

end Sys2Proof.Machine
end

