-- ==== Sys2Proof/Tests/Slice0.lean ====
section
/-! SUPPORT. Tests on small states: the WellFormed smoke, the decoder, single steps, and for each statement with hypotheses a state that meets them. -/

namespace Sys2Proof.Tests

open Sys2Proof Sys2Proof.Machine

set_option Elab.async false

/-! ### Small states -/

/-- The next state of a command. -/
def after (c : Instr) (s : State) : Option State :=
  match exec c s with
  | .next t => some t
  | _ => none

/-- The result code and value in the result word after a command. -/
def answer (c : Instr) (s : State) : Option (ResultCode × Byte) := (after c s).bind fun t => t.host.last

/-- A write transaction whose pointer stands at word a. -/
def writing (a : BitVec 9) (s : State) : State := { s with host := { s.host with txn := .writing, pointer := a } }

/-- A running part with own address 0x10. -/
def base : State :=
  { State.reset with
    port := { State.reset.port with state := .running }
    responder := { State.reset.responder with st := .listening }
    cfg := { State.reset.cfg with ownAddr := 0x10 } }

/-- A node entry. -/
def node (refs : Nat) : NodeEntry where
  address := 0x22
  retryLimit := 1
  backoffMs := 5
  waitLimitMs := 3
  failThreshold := 2
  state := .available
  failCount := 0
  backoffLeft := 0
  refs := refs

/-- One entry in use, at place 15. -/
def withNode (n : NodeEntry) (s : State) : State := { s with nodes := tset s.nodes 15 (some n) }

/-- A WRITE of one byte to the node. -/
def wr : Frame := { dest := 0x22, kind := .write, offset := 0, length := 1 }

/-- A READ of 32 bytes. -/
def rd : Frame := { dest := 0x22, kind := .read, offset := 1, length := 32 }

/-- A PROBE. -/
def pr : Frame := { dest := 0x22, kind := .probe, offset := 0, length := 0 }

/-- A slot of a request in a queue. -/
def slot (st : SlotState) (tag : Byte) (q : QueueName) (c : List Frame) : Slot :=
  { Slot.free with state := st, tag := some tag, queue := some q, chain := c }

/-- A request placed in a slot. -/
def withSlot (k : Fin 32) (x : Slot) (s : State) : State :=
  { s with store := { s.store with slots := tset s.store.slots k x } }

/-- An enabled window of 256 bytes at 768, the last place that ends inside page memory. -/
def window (n : Byte) : Window :=
  { Window.reset with enabled := true, node := n, base := 768, size := 256, stallMs := 2 }

/-- A window table entry. -/
def withWindow (i : Fin 8) (w : Window) (s : State) : State := { s with windows := tset s.windows i w }

/-- A line that is low on SBCK. -/
def low (s : State) : State := { s with line := { s.line with sbck := false } }

/-- The Responder in a state, at a position. -/
def answering (st : ResponderState) (pos : FramePos) (s : State) : State := { s with responder := { s.responder with st := st, pos := pos } }

/-- A slot ACTIVE in the engine, with the engine at a place of its frame. -/
def running (c : List Frame) (e : Engine) (s : State) : State :=
  { withSlot 31 (slot .active 1 .standard c) (withNode (node 1) s) with
    engine := { e with held := some 31 }
    sched := { s.sched with std := [31] } }

/-- The engine waiting for a rise of SBCK in a state and at a position, SBDT at a level. -/
def taking (st : EngineState) (n : Nat) (sent : Option Bool) (level : Bool) (c : List Frame) (s : State) : State :=
  { running c { Engine.reset with st := st, pos := .within n, phase := .waiting, sent := sent } s with
    line := { s.line with sbck := false, sbdt := level } }

/-! ### The commands as their rows mean them -/

theorem test_wellFormed_badCommand_listed : (Instr.badCommand 0x01).wellFormed = false := by decide
theorem test_wellFormed_badCommand_last_listed : (Instr.badCommand 0x3F).wellFormed = false := by decide
theorem test_wellFormed_badCommand_unlisted : (Instr.badCommand 0x00).wellFormed = true := by decide
theorem test_wellFormed_registerWrite_command_word : (Instr.registerWrite 0x004 0).wellFormed = false := by decide
theorem test_wellFormed_registerWrite_events_word : (Instr.registerWrite 0x006 0).wellFormed = false := by decide
theorem test_wellFormed_registerWrite_page : (Instr.registerWrite 0x100 0).wellFormed = true := by decide
theorem test_wellFormed_submit : Instr.submit.wellFormed = true := by decide
theorem test_decode_no_row_has_bits : decodeTableWord 32 0x01 = none := rfl
theorem test_withFetchWord_no_row_has_bits : (State.reset.withFetchWord 32 0x01) = State.reset := rfl
theorem test_core_steps : Sys2Proof.core.step = step ∧ Sys2Proof.core.reset = State.reset := ⟨rfl, rfl⟩

/-! ### The step -/

theorem test_witness_StepTakesFrontCommand :
    ({ State.reset with pending := [.csFall, .msTick] }).pending = Instr.csFall :: [.msTick] := rfl

/-- The three cases of an empty queue: an expiry due at the last slot, a word of an open read, one REFCLK period. -/
theorem test_witness_EmptyQueueStep :
    let due := { State.reset with sched := { State.reset.sched with timers := tset State.reset.sched.timers 31 (.running 0) } }
    let word := { State.reset with host := { State.reset.host with txn := .reading } }
    let last := { State.reset with port := { State.reset.port with period := 15999 } }
    (due.pending = [] ∧ nextDue due = some (.deadline 31)) ∧
      (word.pending = [] ∧ nextDue word = none ∧ word.host.txn = .reading ∧ word.host.shifting = false) ∧
      last.pending = [] ∧ nextDue last = none ∧ last.host.txn ≠ .reading ∧ (idle last).port.period = 0 ∧
      (idle State.reset).port.period = 1 := by decide +kernel

/-- The last and the last but one period of each count: the time base, the Responder's two counts, the engine's, the recovery sequence's, the quiet timer's. -/
theorem test_witness_EmptyQueueStep_counts :
    let r := fun d e => { base with responder := { base.responder with delay := d, release := e, driveSbck := true, want := true } }
    let e := fun p n => { base with engine := { Engine.reset with st := .arbitrating, phase := p, left := n } }
    let c := fun n => { base with port := { base.port with state := .recovering, recovery := .pulseLow, left := n, driveSbck := true } }
    let q := fun tb part => { base with line := { base.line with quietTb := tb, quietPart := part } }
    ((base.line.sbck = true ∧ base.line.sbdt = true ∧ base.line.state ≠ .stuck) ∧
      (delayPeriod (r (some 2) none)).responder.delay = some 1 ∧ (delayPeriod (r (some 1) none)).responder.delay = none) ∧
      (releasePeriod (r none (some 2))).responder.release = some 1 ∧
      (releasePeriod (r none (some 1))).responder.driveSbck = false ∧
      (enginePeriod (e .high 2)).engine.left = 1 ∧ (enginePeriod (e .startHold 1)).engine.phase = .lowFirst ∧
      (enginePeriod (e .startDue 0)).engine.st = .idle ∧ enginePeriod (e .waiting 1) = e .waiting 1 ∧
      (recoveryPeriod (c 2)).port.left = 1 ∧ (recoveryPeriod (c 1)).port.recovery = .pulseRise ∧
      (quietPeriod (q 31 158)).line.quietPart = 159 ∧ (quietPeriod (q 30 159)).line.quietTb = 31 ∧
      (quietPeriod (q 31 159)).line.state = .quiet ∧ quietPeriod (low base) = low base := by decide +kernel

/-! ### Resets -/

theorem test_witness_SoftResetSplit :
    WriteOpen 0x004 (writing 0x004 (withNode (node 1) base)) ∧
      answer .softReset (writing 0x004 (withNode (node 1) base)) = some (.ok, 0) := by
  unfold WriteOpen; decide +kernel

/-- An entry that was SUSPENDED is AVAILABLE after SOFT_RESET, and no entry is in use after RST#. -/
theorem test_witness_NodeTableResets :
    let s := writing 0x004 (withNode { node 1 with state := .suspended, failCount := 15 } base)
    (s.host.txn = .writing ∧ s.host.pointer = 0x004 ∧ tget s.nodes 0 = none) ∧
      (after .softReset s).map (fun t => tget t.nodes 15) = some (some (node 0)) ∧
      (after (.rst true true true) s).map (fun t => tget t.nodes 15) = some none := by decide +kernel

/-- A stall, a PENDING and a HELD window, a full queue and a sequence count are gone after SOFT_RESET. -/
theorem test_witness_HoldUnitResets :
    let s := writing 0x004
      (withWindow 7 { window 0x40 with hold := .pending, inFrame := true }
        { base with hold := { base.hold with stallTimer := some 1, stallWindow := some 0, reservation := true, sequence := 9 } })
    s.host.txn = .writing ∧ s.host.pointer = 0x004 ∧
      (after .softReset s).map (fun t => (t.hold, (windowOf t 7).hold, eventSet .holdGranted t)) =
        some (HoldUnit.reset, .open, false) := by decide +kernel

/-! ### The Host Port -/

theorem test_witness_SpiFraming :
    State.reset.host.txn = .closed ∧
      (let s := { State.reset with host := { State.reset.host with txn := .header } }
       (0x81FF : BitVec 16).extractLsb' 9 6 = 0 ∧
        (after (.spiHeader 0x81FF) s).map (fun t => (t.host.pointer, t.host.txn)) = some (0x1FF, .reading) ∧
        (after (.spiHeader 0x0000) s).map (fun t => (t.host.pointer, t.host.txn)) = some (0x000, .writing)) ∧
      (writing 0 State.reset).host.txn ≠ .closed := by decide +kernel

theorem test_witness_MalformedHeader :
    let s := { State.reset with host := { State.reset.host with txn := .header, pointer := 5 } }
    let i := { State.reset with host := { State.reset.host with txn := .ignoring } }
    ((0x0200 : BitVec 16).extractLsb' 9 6 ≠ 0 ∧ (0xC1FF : BitVec 16).extractLsb' 9 6 ≠ 0) ∧
      (after (.spiHeader 0x0200) s).map (fun t => (t.host.pointer, t.host.txn, t.events.flags)) = some (5, .ignoring, 0x400) ∧
      i.host.txn = .ignoring ∧ after .submit i = some i ∧ misoDrive i = .low := by decide +kernel

theorem test_witness_CommandWordIsItsRow :
    let w := fun n : Nat => BitVec.ofNat 32 n
    (w 0x00073F01).extractLsb' 0 8 = (0x01 : BitVec 8) ∧ (w 0xFFFF0002).extractLsb' 16 16 = (0xFFFF : BitVec 16) ∧
      (∀ c ∈ listedCodes, (Instr.badCommand c).wellFormed = false ∧ (c.setWidth 32).extractLsb' 0 8 = c) ∧
      (Instr.badCommand 0x05).wellFormed = true ∧ (Instr.badCommand 0xFF).wellFormed = true ∧
      answer (.registerWrite 0x004 0x05) (writing 0x004 base) = some (.badCommand, 0) ∧
      answer (.badCommand 0xFF) (writing 0x004 base) = some (.badCommand, 0) := by decide +kernel

theorem test_witness_ConfigurationAndEventWords :
    let s := writing 0x001 State.reset
    let r := writing 0x001 base
    (s.host.txn = .writing ∧ s.host.pointer = 0x001 ∧ s.port.state = .disabled) ∧ r.port.state ≠ .disabled ∧
      (after (.portConfigurationWrite 0x003FFFFF) s).map State.cfg =
        some { State.reset.cfg with ownAddr := 0xFF, bitDiv := 2047, quietSel := 3 } ∧
      (after (.portConfigurationWrite 0x003FFFFF) r).map State.cfg = some base.cfg ∧
      (after (.timingConfigurationWrite 0x00000FFF) (writing 0x002 base)).map State.cfg =
        some { base.cfg with stuckLimit := 255, passLimit := 15 } ∧
      (after (.queueLimitsWrite 0x00210001) (writing 0x003 base)).map State.cfg = some { base.cfg with limitExp := 1 } ∧
      (after (.queueLimitsWrite 0x00201F20) (writing 0x003 base)).map State.cfg =
        some { base.cfg with limitExp := 32, limitStd := 31, limitBkg := 32 } ∧
      (after (.eventsWrite 0x00000005) (writing 0x006 { base with events := { base.events with flags := 0x7FF } })).map
        (fun t => t.events.flags) = some 0x7FA ∧
      (after (.eventEnablesWrite 0xFFFFFFFF) (writing 0x007 base)).map (fun t => t.events.enables) = some 0x7FF := by
  decide +kernel

theorem test_witness_StuckLimitWrite :
    let s := writing 0x002 (low base)
    (s.host.txn = .writing ∧ s.host.pointer = 0x002 ∧ stuckAdvances s = true) ∧
      (after (.timingConfigurationWrite 0x00000501) s).map (fun t => (t.cfg.stuckLimit, t.cfg.passLimit)) = some (1, 5) ∧
      (after (.timingConfigurationWrite 0x00000500) s).map (fun t => (t.cfg.stuckLimit, t.cfg.passLimit)) = some (30, 5) ∧
      ((after (.timingConfigurationWrite 0x00000501) s).bind (after .msTick)).map (fun t => t.line.stuckDue) = some true := by
  decide +kernel

/-- Each clause at both ends of its addresses. -/
theorem test_witness_RegisterWriteStores :
    let put := fun (a : BitVec 9) => after (.registerWrite a 0xFFFFFFFF) (writing a base)
    (put 0x010).map (fun t => t.edit.node0) = some 0x000000FF ∧ (put 0x011).map (fun t => t.edit.node1) = some 0x00FFFFF7 ∧
      (put 0x012).map (fun t => t.edit.window0) = some 0x01FF03FF ∧
      (put 0x013).map (fun t => t.edit.window1) = some 0x0033FFFF ∧
      (put 0x040).map (fun t => tget t.edit.staging 0) = some 0xFFFF07F3 ∧
      (put 0x041).map (fun t => tget t.edit.staging 1) = some 0x3FFF03FF ∧
      (put 0x044).map (fun t => tget t.edit.staging 4) = some 0x3FFF03FF ∧
      (put 0x045).map (fun t => tget t.edit.staging 5) = some 0xFFFFFFFF ∧
      (put 0x054).map (fun t => tget t.edit.staging 20) = some 0xFFFFFFFF ∧
      base.page.wf = true ∧ (put 0x100).map (fun t => (t.page.read 0, t.page.read 3, t.page.read 4)) = some (255, 255, 0) ∧
      (put 0x1FF).map (fun t => (t.page.read 1019, t.page.read 1020, t.page.read 1023)) = some (0, 255, 255) ∧
      ∀ a ∈ [0x000, 0x005, 0x008, 0x00F, 0x014, 0x03F, 0x055, 0x0FF],
        put a = some { writing a base with host := wordTaken (writing a base).host } := by decide +kernel

theorem test_witness_ReadsTakeFrozenGroups :
    let s := { State.reset with host := { State.reset.host with txn := .reading, pointer := 0x009 } }
    let t := { takeReadWord s with store := { State.reset.store with tagCounter := 7 } }
    (s.pending = [] ∧ nextDue s = none ∧ s.host.txn = .reading ∧ s.host.shifting = false) ∧
      (s.host.pointer.toNat = 0x009 ∧ (s.host.frozen.lookup 0x009 = none ∧ s.host.frozen.lookup 0x00A = none) ∧
        t.host.frozen = (takeReadWord s).host.frozen ∧ t.host.pointer.toNat = 0x00A ∧
        readValue t = readLive s t.host.pointer) ∧
      (takeReadWord s).host.miso = some 0x20000000 := by decide +kernel

/-- Words of each kind with every field at its highest value, and the words that read 0. -/
theorem test_witness_RegisterWindowWords :
    let n : NodeEntry := ⟨254, 7, 255, 255, 15, .suspended, 15, 255, 32⟩
    let w : Window := ⟨true, 255, 1023, 511, .code3, true, .stall, 255, .held, true⟩
    let r : CompletionRecord := ⟨31, 255, .portStopped, 4, some 3, some 254, 8, 255, 64⟩
    let s := withNode n (withWindow 7 w { base with
      completions := [r]
      host := { base.host with counter := 255, last := some (.portConfig, 255) }
      page := [(1023, 5)]
      responder := { base.responder with st := .confirming }
      hold := { base.hold with stallWindow := some 7, reasonHeld := true, reasonFull := true, reservation := true } })
    let t := withSlot 31 { slot .done 255 .standard [pr] with data := Vector.replicate 64 0xAB } s
    [readLive t 0x03E, readLive t 0x03F, readLive t 0x020, readLive t 0x08E, readLive t 0x08F, readLive t 0x060,
      readLive t 0x061, readLive t 0x062, readLive t 0x071, readLive t 0x005, readLive t 0x008, readLive t 0x009,
      readLive t 0x00A, readLive t 0x1FF] =
      [0xFF20F3FE, 0x00FFFFF7, 0, 0x01FF03FF, 0x9833FFFF, 0x8D4084FF, 0x01FE13FF, 0xABABABAB, 0xABABABAB, 0xFF00FF31,
        0x003F8001, 0x1F000000, 0x00010001, 0x00000005] ∧
      ∀ a ∈ [0x004, 0x00B, 0x00F, 0x014, 0x01F, 0x055, 0x05F, 0x072, 0x077, 0x079, 0x07F, 0x090, 0x0FF],
        readLive t a = 0 := by decide +kernel

/-- The events and enables words and the notify head record word, every field at its end and at 0. -/
theorem test_witness_RegisterWindowWords_events :
    let s := { base with
      events := { flags := 0x7FF, enables := 0x400 }
      hold := { base.hold with queue := [⟨7, 255, 32, 254, 255⟩] } }
    [0x006, 0x007, 0x078].map (readLive s) = [0x000007FF, 0x00000400, 0xFFFFFEFF] ∧
      [0x006, 0x007, 0x078].map (readLive base) = [0, 0, 0] := by decide +kernel

theorem test_witness_NotifyHeadRecordWord :
    let r := fun n => { base with hold := { base.hold with queue :=
      [{ window := 7, offset := 255, length := n, source := 254, sequence := 255 }] } }
    base.hold.queue = [] ∧ readLive (r 1) 0x078 = 0xFFE0FEFF ∧ readLive (r 32) 0x078 = 0xFFFFFEFF := by decide +kernel

/-! ### Requests -/

/-- A staged request: the request word and its first frame descriptor. -/
def staging (w0 w1 : Word) (s : State) : State :=
  writing 0x004 { s with edit := { s.edit with staging := tset (tset s.edit.staging 0 w0) 1 w1 } }

/-- 32 slots that are not FREE. -/
def noFree (s : State) : State :=
  { s with store := { s.store with slots := tmap (fun _ => slot .done 9 .standard [pr]) s.store.slots } }

/-- Each of the ten checks of SUBMIT, first to fail, at an end of its range. -/
theorem test_witness_SubmitRefusals :
    let n := withNode (node 0) base
    let full := { n with sched := { n.sched with std := List.replicate 32 0 } }
    (staged (staging 0x00000003 0 n)).queue = none ∧ answer .submit (staging 0x00000003 0 n) = some (.badQueue, 0) ∧
      answer .submit (staging 0x00000001 0 n) = some (.badCount, 0) ∧
      answer .submit (staging 0x00000501 0 n) = some (.badCount, 0) ∧
      answer .submit (staging 0x00000201 0x01000022 n) = some (.badLength, 1) ∧
      answer .submit (staging 0x00000401 0x00000300 n) = some (.badKind, 0) ∧
      answer .submit (staging 0x00000101 0x21000022 n) = some (.badLength, 0) ∧
      answer .submit (staging 0x00000101 0x01000200 n) = some (.badLength, 0) ∧
      answer .submit (staging 0x00000101 0x200000FF n) = some (.badAddress, 0) ∧
      answer .submit (staging 0x00000101 0x01000000 n) = some (.badAddress, 0) ∧
      answer .submit (staging 0x00000101 0x01000023 n) = some (.nodeUnknown, 0) ∧
      answer .submit (staging 0x00000101 0x01000022 (withNode { node 0 with state := .suspended } base)) =
        some (.nodeSuspended, 0) ∧
      answer .submit (staging 0x00000101 0x01000022 full) = some (.queueFull, 0) ∧
      answer .submit (staging 0x00000101 0x01000022 (noFree n)) = some (.noSlot, 0) ∧
      answer .submit (staging 0x00000101 0x01000022 n) = some (.ok, 1) := by decide +kernel

/-- Three READs of 32 bytes are over 64. -/
theorem test_witness_SubmitRefusals_overSize :
    let s := staging 0x00000301 0x20000122 (withNode (node 0) base)
    let t := { s with edit := { s.edit with staging := tset (tset s.edit.staging 2 0x20000122) 3 0x20000122 } }
    ((stagedFrames t).map RawFrame.length).sum = 96 ∧ answer .submit t = some (.overSize, 0) := by decide +kernel

/-- A queue of 3 refused at a limit of 2: a limit written above its count lets the next SUBMIT through (R42), one written below or at it does not (R34, R37; log 37). -/
theorem test_submit_after_limit_written :
    let n := withNode (node 0) base
    let s := { n with cfg := { n.cfg with limitStd := 2 }, sched := { n.sched with std := [0, 1, 2] } }
    let submitAfter := fun (w : Word) => (after (.queueLimitsWrite w) (writing 0x003 s)).bind fun t =>
      answer .submit (staging 0x00000101 0x01000022 t)
    answer .submit (staging 0x00000101 0x01000022 s) = some (.queueFull, 0) ∧
      submitAfter 0x00000200 = some (.queueFull, 0) ∧ submitAfter 0x00000300 = some (.queueFull, 0) ∧
      submitAfter 0x00000400 = some (.ok, 1) := by decide +kernel

/-- All ten checks pass, and the request is placed with the tag after 255 where 255 is held. -/
theorem test_witness_SubmitPlacesRequest :
    let n := withSlot 0 (slot .done 255 .standard [pr]) (withNode (node 0) base)
    let s := staging 0x00030151 0x01000022 { n with store := { n.store with tagCounter := 255 } }
    (WriteOpen 0x004 s ∧ PassesChecks s 10) ∧ (staged s).queue = some .standard ∧ (slotOf s 1).state = .free ∧
      (∀ j : Fin 32, j < 1 → (slotOf s j).state ≠ .free) ∧ assignTag s = 1 ∧ answer .submit s = some (.ok, 1) ∧
      (after .submit s).map (fun t => (slotOf t 1).tag) = some (some 1) ∧
      (after .submit s).map (fun t => t.store.tagCounter) = some 2 ∧
      (after .submit s).map (fun t => timerOf t 1) = some (.running 3) ∧
      (after .submit s).map (fun t => t.sched.std) = some [1] ∧
      (after .submit s).map (fun t => (tget t.nodes 15).map NodeEntry.refs) = some (some 1) := by
  refine ⟨⟨⟨rfl, rfl⟩, ?_⟩, by decide +kernel⟩
  unfold PassesChecks
  refine ⟨by decide +kernel, by decide +kernel, by decide +kernel, ?_, by decide +kernel, ?_, by decide +kernel,
    by decide +kernel, ?_, by decide +kernel⟩
  · unfold LengthOk; decide +kernel
  · unfold AddressOk; decide +kernel
  · intro _ q; cases q <;> decide +kernel

/-- A WRITE, a READ and a PROBE, with the last byte of each region and the first beyond. -/
theorem test_witness_BufferContents :
    let c := [wr, pr, rd, { wr with length := 31 }]
    let p := (List.range 64).map fun n => BitVec.ofNat 8 (n + 100)
    (chainLength c ≤ 64 ∧ p.length = 64 ∧ ∀ f ∈ c, f.kind = .probe → f.length = 0) ∧
      bufferByte (allocatedData c p) 0 = 100 ∧ bufferByte (allocatedData c p) 1 = 0 ∧
      bufferByte (allocatedData c p) 32 = 0 ∧ bufferByte (allocatedData c p) 33 = 101 ∧
      bufferByte (allocatedData c p) 63 = 131 ∧ bufferByte (copyRegion (Vector.replicate 64 1) 32 (Vector.replicate 32 7) 32) 63 = 7 ∧
      bufferByte (copyRegion (Vector.replicate 64 1) 32 (Vector.replicate 32 7) 32) 31 = 1 ∧
      bufferByte (toBuffer 32 (Memory.readBytes [(1023, 5)] 992 32)) 31 = 5 := by decide +kernel

/-- CANCEL of a WAITING, an ACTIVE and a DONE slot and of an argument above 255; POP_COMPLETION of a record and of none. -/
theorem test_witness_CancelAndPopCompletion :
    let q := fun st => withSlot 31 (slot st 255 .standard [wr]) (withNode (node 1) base)
    let s := fun st => writing 0x004 { (q st) with sched := { (q st).sched with std := [31] } }
    let r : CompletionRecord :=
      ⟨31, 255, .done, 1, none, none, 1, 0, 1⟩
    answer (.cancel 255) (s .waiting) = some (.ok, 255) ∧ answer (.cancel 255) (s .active) = some (.cancelPending, 255) ∧
      answer (.cancel 255) (s .done) = some (.tooLate, 255) ∧ answer (.cancel 256) (s .waiting) = some (.notFound, 0) ∧
      answer (.cancel 0) (s .waiting) = some (.notFound, 0) ∧
      (after (.cancel 255) (s .waiting)).map (fun t => ((slotOf t 31).outcome, t.sched.std, t.completions.length)) =
        some (some .cancelled, [], 1) ∧
      answer .popCompletion { (s .done) with completions := [r] } = some (.ok, 255) ∧
      (after .popCompletion { (s .done) with completions := [r] }).map (fun t => slotOf t 31) = some Slot.free ∧
      answer .popCompletion (s .waiting) = some (.empty, 0) := by decide +kernel

/-- The tags of these states are distinct. -/
theorem test_witness_CancelAndPopCompletion_tags : TagsDistinct (withSlot 31 (slot .waiting 255 .standard [wr]) base) := by
  refine ⟨by decide, fun k hk => ?_⟩
  have all : ∀ j : Fin 32, j ≠ 31 →
      (slotOf (withSlot 31 (slot .waiting 255 .standard [wr]) base) j).live = false := by decide +kernel
  have own : ∀ j : Fin 32, (slotOf (withSlot 31 (slot .waiting 255 .standard [wr]) base) j).live = true → j = 31 := by
    intro j hj
    refine Decidable.byContradiction fun h => ?_
    rw [all j h] at hj
    exact absurd hj (by decide)
  rw [own k hk]
  exact ⟨255, by decide +kernel, by decide, fun j hj _ => own j hj⟩

/-! ### Outcomes -/

/-- Two WAITING requests that name the node, one in each of two queues, are flushed EXPEDITE first. -/
theorem test_witness_CompletionAndFlush :
    let s0 := withSlot 0 (slot .waiting 1 .standard [wr]) (withSlot 31 (slot .waiting 2 .expedite [wr, pr]) base)
    let s := withNode (node 2) { s0 with sched := { s0.sched with exp := [31], std := [0] } }
    QueuesExact s ∧ (flush 0x22 s).completions.map (fun r => (r.slot, r.tag)) = [(31, 2), (0, 1)] := by
  refine ⟨⟨?_, by decide +kernel, by decide +kernel, by decide +kernel, by decide +kernel⟩, by decide +kernel⟩
  intro q; cases q <;> decide +kernel

/-- What the flush gives back and sets, at a node that two requests name and at one that none names. -/
theorem test_witness_CompletionAndFlush_rest :
    let s0 := withSlot 0 (slot .waiting 1 .standard [wr]) (withSlot 31 (slot .waiting 2 .expedite [wr, pr]) base)
    let s := withNode (node 2) { s0 with sched := { s0.sched with exp := [31], std := [0] } }
    ((tget (flush 0x22 s).nodes 15).map NodeEntry.refs = some 0 ∧ (flush 0x22 s).events.flags = 0x001) ∧
      (flush 0x23 s).nodes = s.nodes ∧ (flush 0x23 s).events = s.events := by decide +kernel

/-- An arbitration loss and each row of the attempt-end table. -/
theorem test_witness_AttemptEnd :
    let s := running [wr, wr] Engine.reset base
    let x := slotOf s 31
    let at' := fun y => withSlot 31 y s
    let stopping := { s with port := { s.port with state := .stopping } }
    let lapsed := { s with sched := { s.sched with timers := tset s.sched.timers 31 .lapsed } }
    let state := fun t : State => ((slotOf t 31).state, (slotOf t 31).outcome)
    state (attemptEnd 31 .arbLost false (at' { x with arbLosses := 255 })) = (.waiting, none) ∧
      state (attemptEnd 31 .arbLost false (at' { x with cancelPending := true })) = (.done, some .cancelled) ∧
      state (attemptEnd 31 .arbLost false lapsed) = (.done, some .expired) ∧
      state (attemptEnd 31 .accepted true (at' { x with framesDone := 2, cancelPending := true })) = (.done, some .done) ∧
      state (attemptEnd 31 .busy true (at' { x with cancelPending := true })) = (.done, some .cancelled) ∧
      state (attemptEnd 31 .busy true stopping) = (.waiting, none) ∧
      state (attemptEnd 31 .busy true (withSlot 31 { x with framesDone := 1 } stopping)) = (.done, some .portStopped) ∧
      state (attemptEnd 31 .busStuck true s) = (.done, some .busStuck) ∧
      state (attemptEnd 31 .busy true (at' { x with attempts := 1 })) = (.waiting, none) ∧
      state (attemptEnd 31 .busy true (at' { x with attempts := 2 })) = (.done, some .busy) ∧
      state (attemptEnd 31 .badCheck true lapsed) = (.done, some .expired) ∧
      state (attemptEnd 31 .refused true s) = (.done, some .refused) ∧
      state (attemptEnd 31 .waitTimeout true s) = (.done, some .waitTimeout) ∧
      state (attemptEnd 31 .noTarget true s) = (.done, some .noTarget) := by decide +kernel

/-! ### Scheduling and timers -/

/-- A part that may choose: RUNNING, QUIET, IDLE, with a WAITING request for the node in each of two queues. -/
def choosing : State :=
  let s := withSlot 0 (slot .waiting 1 .standard [wr]) (withSlot 31 (slot .waiting 2 .expedite [wr, pr]) (withNode (node 2) base))
  { s with
    sched := { s.sched with exp := [31], std := [0], passStd := 7 }
    line := { s.line with state := .quiet } }

/-- No choice, no candidate, and the two queues: EXPEDITE first, and STANDARD once its count has reached the limit. -/
theorem test_witness_ChoiceRule :
    let idle := { choosing with sched := { choosing.sched with exp := [], std := [] } }
    let passed := { choosing with sched := { choosing.sched with passStd := 8 } }
    ¬ base.line.state = .quiet ∧
      ((choosing.engine.st = .idle ∧ choosing.port.state = .running ∧ choosing.line.state = .quiet) ∧
        candidate idle .expedite = none ∧ candidate idle .standard = none ∧ candidate idle .background = none) ∧
      candidate choosing .expedite = some 31 ∧ candidate choosing .standard = some 0 ∧
      (choose choosing).engine.held = some 31 ∧ (choose choosing).sched.passStd = 8 ∧ (choose choosing).engine.waitLimit = 3 ∧
      (choose passed).engine.held = some 0 ∧ (choose passed).sched.passStd = 0 := by decide +kernel

/-- EXPEDITE is the queue of the first step that applies, in a state that may choose. -/
theorem test_witness_ChoiceRule_falls :
    MayChoose choosing ∧ ChoiceFallsOn choosing .expedite 31 ∧ ¬ NamesOwnWindow choosing (slotOf choosing 31).chain ∧
      (slotOf choosing 31).chain.head? = some wr ∧ nodeAt wr.dest choosing = some (node 2) := by
  refine ⟨⟨rfl, rfl, rfl⟩, ⟨by decide +kernel, by decide +kernel, by decide +kernel⟩, ?_, by decide +kernel, by decide +kernel⟩
  unfold NamesOwnWindow; decide +kernel

theorem test_witness_LocalTargetDisposal :
    let s := withWindow 7 (window 0x22) choosing
    (MayChoose s ∧ ChoiceFallsOn s .expedite 31 ∧ NamesOwnWindow s (slotOf s 31).chain) ∧
      (choose s).completions.map (fun r => (r.slot, r.outcome)) = [(31, .localTarget), (0, .localTarget)] ∧
      (choose s).engine.st = .idle := by
  refine ⟨⟨⟨rfl, rfl, rfl⟩, ⟨by decide +kernel, by decide +kernel, by decide +kernel⟩, ?_⟩, by decide +kernel⟩
  unfold NamesOwnWindow; decide +kernel

theorem test_witness_TimersCountAndExpire :
    let s := { choosing with
      line := { choosing.line with state := .active }
      sched := { choosing.sched with timers := tset choosing.sched.timers 31 (.running 0) } }
    let a := running [wr] Engine.reset { base with
      sched := { base.sched with timers := tset base.sched.timers 31 (.running 0) } }
    let stuck := low { base with line := { base.line with stuckMs := 29 } }
    (timerOf s 31 = .running 0 ∧ (slotOf s 31).state = .waiting) ∧
      (after (.deadlineExpiry 31) s).map (fun t => (slotOf t 31).outcome) = some (some .expired) ∧
      (timerOf a 31 = .running 0 ∧ (slotOf a 31).state = .active) ∧
      (after (.deadlineExpiry 31) a).map (fun t => timerOf t 31) = some .lapsed ∧
      (after .msTick stuck).map (fun t => (t.line.stuckMs, t.line.stuckDue)) = some (30, true) ∧
      (after .msTick base).map State.line = some base.line := by decide +kernel

/-! ### The Node Table -/

/-- A node edit area for an address. -/
def editing (a : Word) (s : State) : State := writing 0x004 { s with edit := { s.edit with node0 := a, node1 := 0x00000013 } }

/-- Every entry in use. -/
def tableFull : State := { base with nodes := Vector.replicate 16 (some (node 0)) }

theorem test_witness_NodeCommandsAndBackoffExpiry_write :
    answer .nodeWrite (editing 0 base) = some (.badAddress, 0) ∧ answer .nodeWrite (editing 255 base) = some (.badAddress, 0) ∧
      answer .nodeWrite (editing 0x22 (withNode (node 0) base)) = some (.ok, 15) ∧
      answer .nodeWrite (editing 254 (withNode (node 0) base)) = some (.ok, 0) ∧
      (after .nodeWrite (editing 254 base)).bind (fun t => tget t.nodes 0) =
        some { node 0 with address := 254, retryLimit := 3, failThreshold := 1, backoffMs := 1, waitLimitMs := 1 } ∧
      answer .nodeWrite (editing 1 tableFull) = some (.tableFull, 0) := by decide +kernel

theorem test_witness_NodeCommandsAndBackoffExpiry_remove :
    let s := writing 0x004 (withNode (node 0) base)
    answer (.nodeRemove 0x22) s = some (.ok, 15) ∧ answer (.nodeRemove 0x122) s = some (.notFound, 0) ∧
      (after (.nodeRemove 0x22) s).map (fun t => tget t.nodes 15) = some none ∧
      answer (.nodeRemove 0x22) (writing 0x004 (withNode (node 1) base)) = some (.nodeInUse, 15) := by decide +kernel

theorem test_witness_NodeCommandsAndBackoffExpiry_resume :
    let s := writing 0x004 (withNode (node 0) base)
    let suspended := writing 0x004 (withNode { node 0 with state := .suspended, failCount := 15 } base)
    let b := withNode { node 0 with state := .backoff } base
    answer (.nodeResume 0x22) s = some (.ok, 15) ∧ answer (.nodeResume 0) s = some (.notFound, 0) ∧
      (after (.nodeResume 0x22) suspended).map (fun t => tget t.nodes 15) = some (some (node 0)) ∧
      (after (.backoffExpiry 15) b).map (fun t => tget t.nodes 15) = some (some (node 0)) := by decide +kernel

/-- A table with one entry keeps its addresses distinct. -/
theorem nodesDistinct_withNode (n : NodeEntry) (s : State) (h : n.address ≠ 0 ∧ n.address ≠ 255)
    (e : ∀ i, i ≠ 15 → tget (withNode n s).nodes i = none) (e' : tget (withNode n s).nodes 15 = some n) :
    NodesDistinct (withNode n s) := by
  have at' : ∀ i m, tget (withNode n s).nodes i = some m → i = 15 ∧ m = n := by
    intro i m hi
    have : i = 15 := Decidable.byContradiction fun h => by rw [e i h] at hi; exact absurd hi (by simp)
    subst this
    rw [e'] at hi
    exact ⟨rfl, (Option.some.inj hi).symm⟩
  refine ⟨fun i m hi => ?_, fun i j m m' hi hj _ => ?_⟩
  · rw [(at' i m hi).2]; exact h
  · rw [(at' i m hi).1, (at' j m' hj).1]

theorem test_witness_NodeCommandsAndBackoffExpiry_distinct : NodesDistinct (withNode (node 0) base) :=
  nodesDistinct_withNode _ _ (by decide) (by decide +kernel) (by decide +kernel)

theorem test_witness_NodeTakesResult :
    NodesDistinct (withNode { node 1 with failCount := 1 } base) ∧
      (let t := fun r => tget (nodeResult r 0x22 (withNode { node 1 with failCount := 1 } base)).nodes 15
       t .accepted = some (node 1) ∧ t .busy = some { node 1 with state := .backoff, backoffLeft := 5 } ∧
         t .noTarget = some { node 1 with failCount := 2, state := .suspended } ∧
         t .busFault = some { node 1 with failCount := 1 }) ∧
      tget (nodeResult .noResponse 0x22 (withNode { node 1 with failThreshold := 0, failCount := 15 } base)).nodes 15 =
        some { node 1 with failThreshold := 0, failCount := 15 } ∧
      (nodeResult .waitTimeout 0x22 (withNode { node 1 with failCount := 1 } base)).events.flags = 0x010 :=
  ⟨nodesDistinct_withNode _ _ (by decide) (by decide +kernel) (by decide +kernel), by decide +kernel⟩

/-! ### The Controller Engine -/

/-- A chain whose second frame is reached, one that ends, and each way the engine goes on. -/
theorem test_witness_ResultIsHandedOn :
    let s := running [wr, pr] { Engine.reset with st := .response, pos := .boundary, arb := .won } base
    let e := running [wr] { Engine.reset with st := .response, pos := .boundary, arb := .won } base
    (s.engine.held = some 31 ∧ (slotOf s 31).chain[s.engine.frameIndex]? = some wr ∧ nodeAt pr.dest s = some (node 1)) ∧
      (reportResult .accepted s).engine = { s.engine with st := .linking, frameIndex := 1, waitLimit := 3 } ∧
      (reportResult .accepted e).engine = { e.engine with st := .stopping, held := none } ∧
      (reportResult .accepted e).completions.map (fun r => (r.outcome, r.framesDone)) = [(.done, 1)] ∧
      (reportResult .busFault e).engine.st = .released ∧ (reportResult .arbLost e).engine.st = .idle ∧
      (reportResult .waitTimeout e).engine.phase = .timeoutWait := by decide +kernel

theorem test_witness_StartAndArbitration_start :
    let s := running [wr] { Engine.reset with st := .arbitrating, phase := .startDue } base
    let q := { s with line := { s.line with state := .quiet } }
    (q.engine.st = .arbitrating ∧ q.engine.phase = .startDue ∧ q.line.sbck = true ∧ q.line.sbdt = true ∧
      q.responder.st = .listening ∧ q.responder.pos = .between) ∧
      (after .engineStart q).map (fun t => (t.engine.phase, t.engine.left, t.line.sbdt, t.line.state)) =
        some (.startHold, 80, false, .active) ∧
      (s.line.state ≠ .quiet ∧ s.engine.held = some 31 ∧ (slotOf s 31).chain[s.engine.frameIndex]? = some wr) ∧
      (after .engineStart s).map (fun t => (slotOf t 31).arbLosses) = some 1 := by decide +kernel

/-- The Start of a part whose Responder is OFF. -/
theorem test_witness_StartAndArbitration_off :
    let s := running [wr] { Engine.reset with st := .arbitrating, phase := .startDue } base
    let q := { s with line := { s.line with state := .quiet }, responder := Responder.reset }
    q.responder.st = .off ∧ (after .engineStart q).map (fun t => (t.engine.phase, t.responder.st)) = some (.startHold, .off) := by
  decide +kernel

/-- The first and the last bit of the arbitration region. -/
theorem test_witness_StartAndArbitration_bits :
    let s := fun n sent level => taking .arbitrating n sent level [wr] base
    (RiseComes (responderCountEnd (s 0 (some true) false)) false ∧ Runs (responderCountEnd (s 0 (some true) false)) 31 wr) ∧
      (after .arbLost (s 0 (some true) false)).map (fun t => ((slotOf t 31).arbLosses, (slotOf t 31).state, t.engine.st)) =
        some (1, .waiting, .idle) ∧
      (after .arbLost (s 19 (some true) false)).map (fun t => t.engine.st) = some .idle ∧
      (after .arbWon (s 19 (some false) false)).map (fun t => ((slotOf t 31).attempts, t.engine.st, t.engine.arb)) =
        some (1, .header, .won) ∧
      RiseComes (responderCountEnd (s 19 (some true) true)) true ∧
      (after .arbWon (s 19 (some true) true)).map (fun t => t.engine.st) = some .header := by
  unfold RiseComes Runs; decide +kernel

/-- The claim slot: PROCEED of a WRITE, and each claim that ends a frame. -/
theorem test_witness_ClaimAndResponseSlots_claim :
    let s := fun c first level => taking .claim 36 none level c base |> fun t => { t with engine := { t.engine with claimFirst := first } }
    (RiseComes (responderCountEnd (s [wr] false false)) false ∧ Runs (responderCountEnd (s [wr] false false)) 31 wr ∧
      claimOfBits false false = .proceed ∧ wr.kind ≠ .probe) ∧
      (after .engineClaim (s [wr] false false)).map (fun t => (t.engine.st, t.engine.claim)) = some (.body, some .proceed) ∧
      (after .engineClaim (s [pr] false false)).map (fun t => (slotOf t 31).outcome) = some (some .done) ∧
      (RiseComes (responderCountEnd (s [wr] false true)) true ∧ claimOfBits false true = .busy) ∧
      (after .engineClaim (s [wr] false true)).map (fun t => (tget t.nodes 15).map NodeEntry.state) = some (some .backoff) ∧
      (after .engineClaim (s [wr] true false)).map (fun t => (slotOf t 31).outcome) = some (some .refused) ∧
      (after .engineClaim (s [wr] true true)).map (fun t => (slotOf t 31).outcome) = some (some .noTarget) := by
  unfold RiseComes Runs; decide +kernel

/-- The whole state after a claim that ends a frame, as the statement has it. -/
theorem test_witness_ClaimAndResponseSlots_whole :
    let s := taking .claim 36 none true [wr] base
    let taken := { s.engine with phase := .high, left := 80, pos := .within 37, claim := some .busy }
    let v := responderRise true { risen s with engine := taken }
    after .engineClaim s = some (responderFall (pullClock (reportResult .busy
      { v with
        line := { v.line with sbck := false, quietTb := 0, quietPart := 0 }
        engine := { taken with pos := .boundary } }))) := by decide +kernel

/-- The response slot of a WRITE, low and high, and of a READ, verified or not, at the longest body. -/
theorem test_witness_ClaimAndResponseSlots_response :
    let s := fun c n ok sent level => taking .response n sent level c base |> fun t => { t with engine := { t.engine with verified := ok } }
    (RiseComes (responderCountEnd (s [wr] 53 false none false)) false ∧ Runs (responderCountEnd (s [wr] 53 false none false)) 31 wr) ∧
      (after .engineResponseSlot (s [wr] 53 false none false)).map (fun t => (slotOf t 31).outcome) = some (some .done) ∧
      (after .engineResponseSlot (s [wr] 53 false none true)).map (fun t => (tget t.nodes 15).map NodeEntry.failCount) =
        some (some 1) ∧
      (RiseComes (responderCountEnd (s [rd] 301 true (some false) false)) false ∧ 301 = 45 + 8 * rd.length) ∧
      (after .engineResponseSlot (s [rd] 301 true (some false) false)).map (fun t => (slotOf t 31).outcome) = some (some .done) ∧
      (after .engineResponseSlot (s [rd] 301 false none true)).map (fun t => (tget t.nodes 15).map NodeEntry.failCount) =
        some (some 1) := by
  unfold RiseComes Runs; decide +kernel

theorem test_witness_BusFaultAndWaitTimeout :
    let h := taking .header 20 (some true) false [wr] base
    let l := taking .linking 0 none false [wr, pr] base
    let c := fun level => { taking .header 20 none level [wr] base with
      engine := { (taking .header 20 none level [wr] base).engine with phase := .high }
      line := { base.line with sbdt := level } }
    let w := taking .body 40 none false [wr] base |> fun t => { t with engine := { t.engine with waitTimer := some 3, waitLimit := 3 } }
    (RiseComes (responderCountEnd h) false ∧ h.engine.phase = .waiting ∧ h.engine.sent = some (!false)) ∧
      after .busFault h = some (responderRise false (reportResult .busFault (risen h))) ∧
      RiseComes (responderCountEnd l) false ∧ after .busFault l = some (responderRise false (reportResult .busFault (risen l))) ∧
      ((c true).engine.phase = .high ∧ (c true).line.sbck = true ∧ (c true).line.sbdt = true) ∧
      (after .busFault (c true)).map (fun t => (t.engine.st, t.line.sbdt)) = some (.released, false) ∧
      ((c false).line.sbdt = false ∧ ownSbdt (c false) = false ∧ (c false).port.recovery = .none) ∧
      (after .busFault (c false)).map (fun t => (t.engine.st, t.line.sbdt)) = some (.released, true) ∧
      (w.engine.st.inFrame = true ∧ w.engine.phase = .waiting ∧ w.engine.waitTimer = some 3 ∧ w.engine.waitLimit.toNat ≤ 3) ∧
      (after .waitTimeout w).map (fun t => ((slotOf t 31).outcome, t.engine.phase)) = some (some .waitTimeout, .timeoutWait) := by
  unfold RiseComes; decide +kernel

/-- A Restart whose sequence was given up is a bus fault at the next rise. -/
theorem test_witness_BusFault_givenUp :
    let s := taking .linking 0 none true [wr, pr] base |> fun t => { t with engine := { t.engine with pos := .between } }
    (RiseComes (responderCountEnd s) true ∧ s.engine.phase = .waiting) ∧
      [Instr.busFault, .sbckRise true].map (fun c => (after c s).map fun t => (t.engine.st, (slotOf t 31).state)) =
        [some (.released, .waiting), some (.released, .waiting)] := by
  unfold RiseComes; decide +kernel

theorem test_witness_ConditionsOfEngine :
    let r := running [wr, pr] { Engine.reset with st := .linking, phase := .condFirst, frameIndex := 1 }
      { base with responder := { base.responder with pos := .boundary, high := .condition } }
    let p := { base with
      engine := { Engine.reset with st := .stopping, phase := .stopWait }
      line := { base.line with sbdt := false } }
    (r.engine.st = .linking ∧ r.engine.phase = .condFirst ∧ r.line.sbck = true ∧ r.responder.st = .listening ∧
      r.responder.pos = .boundary ∧ r.responder.high ≠ .lastBit ∧ r.responder.driveSbdt = false) ∧
      (after .restart r).map (fun t => (t.engine.st, t.engine.pos, t.line.sbck, t.responder.st)) =
        some (.header, .within 0, false, .decoding) ∧
      (p.engine.st = .stopping ∧ p.engine.phase = .stopWait ∧ p.line.sbck = true ∧ p.line.sbdt = false ∧ ownSbdt p = false ∧
        p.port.recovery = .none ∧ p.line.state ≠ .quiet) ∧
      (after .stop p).map (fun t => (t.engine.st, t.line.sbdt)) = some (.idle, true) ∧
      (after .released p).map (fun t => t.engine.st) = some .released ∧
      (engineToIdle { p with port := { p.port with state := .stopping } }).port.state = .disabled := by decide +kernel

/-- The rises that begin the high phase of a condition and the one after a wait timeout. -/
theorem test_witness_ConditionsOfEngine_phases :
    let w := fun p st level => taking st 0 none level [wr, pr] base |> fun t => { t with engine := { t.engine with phase := p, pos := .boundary } }
    let stop := fun p pos => { base with engine := { Engine.reset with st := .stopping, phase := p, pos := pos } }
    let seen := fun (t : State) => (t.engine.phase, t.engine.left)
    (RiseComes (w .waiting .linking true) true ∧ (w .timeoutWait .stopping true).engine.waitTimer = none) ∧
      (after (.sbckRise true) (w .waiting .linking true)).map seen = some (.condFirst, 40) ∧
      (after (.sbckRise true) (w .waiting .stopping false)).map seen = some (.condFirst, 40) ∧
      (after (.sbckRise true) (w .timeoutWait .stopping true)).map seen = some (.timeoutHigh, 80) ∧
      (after (.phaseCountEnd .controller) (stop .condFirst .boundary)).map seen = some (.stopWait, 40) := by
  unfold RiseComes; decide +kernel

/-- The Restart of a part whose Responder is OFF, the ends of those high phases, and the conditions that another controller cuts short. -/
theorem test_witness_ConditionsOfEngine_ends :
    let c := fun p st pos => running [wr, pr] { Engine.reset with st := st, phase := p, pos := pos } base
    let stop := fun p pos => { base with engine := { Engine.reset with st := .stopping, phase := p, pos := pos } }
    let off := fun (s : State) => { s with responder := Responder.reset }
    let seen := fun (t : State) => (t.engine.phase, t.engine.left)
    let went := fun (t : State) => (t.engine.st, t.engine.pos, t.line.sbck)
    (after (.phaseCountEnd .controller) (off (c .condFirst .linking .boundary))).map seen = some (.condSecond, 40) ∧
      (after .restart (off (c .condFirst .linking .boundary))).map went = some (.header, .within 0, false) ∧
      (after (.phaseCountEnd .controller) (stop .stopWait .boundary)).map went = some (.released, .boundary, true) ∧
      (after (.phaseCountEnd .controller) (stop .timeoutHigh .boundary)).map went = some (.stopping, .between, false) ∧
      (after (.phaseCountEnd .controller) (stop .timeoutHigh (.within 40))).map went = some (.stopping, .within 40, false) ∧
      (after .sbckFall (c .condFirst .linking .boundary)).map went = some (.linking, .between, false) ∧
      (after .sbckFall (c .condFirst .linking .boundary)).map (fun t => (t.engine.driveSbck, t.engine.phase)) =
        some (true, .lowFirst) ∧
      (after .sbckFall (stop .stopWait .boundary)).map went = some (.stopping, .between, false) ∧
      (after .sbckFall (stop .condFirst (.within 40))).map went = some (.stopping, .within 40, false) := by decide +kernel

/-- The second half of the Restart's high phase, ended by the engine's count and by another controller; the Restart's fall of SBDT at a Responder that listens, and at one in the middle of a frame. -/
theorem test_witness_ConditionsOfEngine_restart :
    let c := fun p => running [wr, pr] { Engine.reset with st := .linking, phase := p, pos := .boundary } base
    let second := { c .condSecond with line := { base.line with sbdt := false } }
    let went := fun (t : State) => (t.engine.st, t.engine.pos, t.line.sbck)
    let fell := fun (t : State) => (t.engine.phase, t.responder.st, t.responder.pos)
    (second.line.sbck = true ∧ second.port.recovery = .none) ∧
      (after .sbckFall second).map went = some (.header, .within 0, false) ∧
      (after (.phaseCountEnd .controller) second).map went = some (.header, .within 0, false) ∧
      ((c .condFirst).responder.st = .listening ∧ (c .condFirst).responder.pos = .between) ∧
      (after (.phaseCountEnd .controller) (c .condFirst)).map fell = some (.condSecond, .decoding, .within 0) ∧
      (after (.phaseCountEnd .controller) (answering .listening .boundary (c .condFirst))).map fell =
        some (.condSecond, .decoding, .within 0) ∧
      (after (.phaseCountEnd .controller) (answering .passive (.within 36) (c .condFirst))).map fell =
        some (.condSecond, .decoding, .within 0) := by decide +kernel

/-! ### The clock and the lines -/

/-- The first and the last header bit at the midpoint, the release of SBCK, the end of the Start. -/
theorem test_witness_PhaseCountEnds :
    let m := fun st n => running [wr] { Engine.reset with st := st, pos := .within n, phase := .lowFirst } (low base)
    let e := fun p => { running [wr] { Engine.reset with st := .header, phase := p } base with
      line := { base.line with sbdt := false } }
    let d := fun want => low { base with responder := { base.responder with st := .sending, delay := some 1, want := want, driveSbdt := !want } }
    ((m .arbitrating 0).port.recovery = .none ∧ (m .arbitrating 0).engine.held = some 31) ∧
      (after (.phaseCountEnd .controller) (m .arbitrating 0)).map (fun t => (t.engine.sent, t.line.sbdt)) = some (some false, false) ∧
      (after (.phaseCountEnd .controller) (m .header 34)).map (fun t => (t.engine.sent, t.engine.phase)) =
        some (some false, .lowSecond) ∧
      (after (.phaseCountEnd .controller) (e .lowSecond)).map (fun t => (t.engine.phase, t.engine.waitTimer)) = some (.waiting, some 0) ∧
      (after (.phaseCountEnd .controller) (e .startHold)).map (fun t => (t.engine.phase, t.line.sbck)) = some (.lowFirst, false) ∧
      ((d true).responder.commits = false ∧ (d true).line.sbdt = true) ∧
      (after (.phaseCountEnd .responder) (d true)).map (fun t => (t.responder.driveSbdt, t.line.sbdt)) = some (true, false) ∧
      (after (.phaseCountEnd .responder) (d false)).map (fun t => t.responder.driveSbdt) = some false ∧
      (after (.phaseCountEnd .responder) { base with responder := { base.responder with driveSbck := true, release := some 10 } }).map
        (fun t => t.responder.driveSbck) = some false := by decide +kernel

/-- The bits past the header at each end of their ranges: the claim slot, a WRITE's body, check and response slot. -/
theorem test_witness_PhaseCountEnds_bits :
    let m := fun st n f => withSlot 31 { slot .active 1 .standard [f] with data := toBuffer 64 [0x80, 0x01] }
        (running [f] { Engine.reset with st := st, pos := .within n, phase := .lowFirst, crc := 0x81 } (low base)) |>
      fun t => { t with engine := { t.engine with held := some 31 } }
    let sent := fun s => (after (.phaseCountEnd .controller) s).map fun t => (t.engine.sent, t.engine.driveSbdt)
    let w2 := { wr with length := 2 }
    (Runs (m .body 37 w2) 31 w2 ∧ (m .body 37 w2).port.recovery = .none) ∧
      sent (m .claim 35 w2) = some (none, false) ∧ sent (m .claim 36 w2) = some (none, false) ∧
      sent (m .body 37 w2) = some (some true, false) ∧ sent (m .body 52 w2) = some (some true, false) ∧
      sent (m .body 45 w2) = some (some false, true) ∧ sent (m .check 53 w2) = some (some true, false) ∧
      sent (m .check 54 w2) = some (some false, true) ∧ sent (m .check 60 w2) = some (some true, false) ∧
      sent (m .response 61 w2) = some (none, false) := by
  unfold Runs; decide +kernel

/-- The same for a READ, and the level of a Restart and of a Stop. -/
theorem test_witness_PhaseCountEnds_read :
    let m := fun st n => running [rd] { Engine.reset with st := st, pos := .within n, phase := .lowFirst } (low base)
    let ok := fun (s : State) => { s with engine := { s.engine with verified := true } }
    let sent := fun s => (after (.phaseCountEnd .controller) s).map fun t => (t.engine.sent, t.engine.driveSbdt)
    sent (m .body 37) = some (none, false) ∧
      sent (m .check 300) = some (none, false) ∧ sent (ok (m .response 301)) = some (some false, true) ∧
      sent (m .response 301) = some (none, false) ∧ sent (m .linking 0) = some (none, false) ∧
      sent (m .stopping 0) = some (none, true) := by decide +kernel

/-- A 0 sent after a 0, and a change of SBDT that comes in a high phase: with no engine's clock, and in a frame that the engine drives. -/
theorem test_witness_PhaseCountEnds_late :
    let d := fun (s : State) => { s with responder := { s.responder with
      st := .sending, pos := .within 40, delay := some 1, want := true } }
    let dark := d { low base with line := { (low base).line with sbdt := false } }
    let own := d (running [rd] { Engine.reset with st := .body, phase := .high, pos := .within 40 } base)
    (dark.responder.delay = some 1 ∧ dark.responder.release = none ∧ dark.responder.commits = false ∧ dark.line.sbdt = false) ∧
      (after (.phaseCountEnd .responder) dark).map (fun t => (t.responder.driveSbdt, t.line.sbdt, t.responder.st)) =
        some (true, false, .sending) ∧
      ((d base).line.sbck = true ∧ (d base).line.sbdt = true ∧ (d base).engine.phase = .none ∧ own.engine.phase = .high) ∧
      (after (.phaseCountEnd .responder) (d base)).map (fun t => (t.responder.st, t.line.sbdt)) = some (.decoding, false) ∧
      (after (.phaseCountEnd .responder) own).map (fun t => (t.engine.st, t.responder.st)) = some (.released, .decoding) ∧
      (after (.phaseCountEnd .responder) { d base with responder := { (d base).responder with commits := true } }).map
        (fun t => t.responder.commits) = some false := by decide +kernel

/-- The engine in a high phase after bit n of a frame, with a claim code and a check result. -/
def highAt (st : EngineState) (n : Nat) (c : Option ClaimCode) (ok : Bool) (f : Frame) : State :=
  running [f] { Engine.reset with
    st := st, phase := .high, pos := .within n, claim := c, verified := ok, respLow := ok, arb := .won } base

/-- Engine state, position and request after the fall that ends a high phase. -/
def endOf (c : Instr) (s : State) : Option (EngineState × FramePos × Option RequestOutcome) :=
  (after c s).map fun u => (u.engine.st, u.engine.pos, (slotOf u 31).outcome)

/-- The falls that end the bits of the claim slot and of the response slot, by another controller and by the engine's count. -/
theorem test_witness_SbckChanges_ends :
    let s := [highAt .claim 35 none false wr, highAt .claim 36 none false wr, highAt .claim 37 (some .proceed) false pr,
      highAt .claim 37 (some .refuse) false wr, highAt .claim 37 (some .none) false wr, highAt .response 53 none false wr,
      highAt .response 54 none true wr, highAt .response 301 none true rd, highAt .response 302 none true rd]
    let t := [(EngineState.claim, FramePos.within 35, none), (.claim, .within 36, none), (.stopping, .boundary, some .done),
      (.stopping, .boundary, some .refused), (.stopping, .boundary, some .noTarget), (.response, .within 53, none),
      (.stopping, .boundary, some .done), (.response, .within 301, none), (.stopping, .boundary, some .done)].map some
    s.map (endOf .sbckFall) = t ∧ s.map (endOf (.phaseCountEnd .controller)) = t ∧
      (∀ x ∈ s, x.line.sbck = true ∧ x.port.recovery = .none) := by decide +kernel

/-- Results that may be tried again: BUSY, NO_RESPONSE and BAD_CHECK. -/
theorem test_witness_SbckChanges_retried :
    Runs (highAt .response 54 none false wr) 31 wr ∧
      [highAt .claim 37 (some .busy) false wr, highAt .response 54 none false wr, highAt .response 302 none false rd].map
          (fun s => (after .sbckFall s).map fun t => (t.engine.st, (tget t.nodes 15).map NodeEntry.failCount)) =
        [some (.stopping, some 0), some (.stopping, some 1), some (.stopping, some 1)] := by
  unfold Runs; decide +kernel

theorem test_witness_SbckChanges :
    let f := fun p st => running [wr] { Engine.reset with st := st, phase := p, pos := .within 3 } base
    let sends := fun n => { base with responder := { base.responder with st := .sending, pos := .within n, crc := 0x80 } }
    let takes := fun st n => low { base with responder := { base.responder with st := st, pos := .within n } }
    (after .sbckFall (f .high .header)).map (fun t => (t.engine.phase, t.line.sbck)) = some (.lowFirst, false) ∧
      (after .sbckFall (f .none .header)).map (fun t => t.engine.phase) = some .none ∧
      (after .sbckFall (sends 37)).map (fun t => (t.responder.delay, t.responder.want)) = some (some 10, true) ∧
      (after .sbckFall (sends 45)).map (fun t => (t.responder.delay, t.responder.want)) = some (some 10, false) ∧
      (after .sbckFall { base with responder := { base.responder with st := .stalling } }).map (fun t => t.responder.driveSbck) =
        some true ∧
      (RiseComes (taking .header 33 (some true) true [wr] base) true ∧ RiseComes (takes .decoding 0) true) ∧
      (after (.sbckRise true) (taking .header 33 (some true) true [wr] base)).map (fun t => (t.engine.pos, t.engine.phase)) =
        some (.within 34, .high) ∧
      (after (.sbckRise true) (takes .decoding 33)).map (fun t => (t.responder.pos, t.responder.header)) = some (.within 34, 1) ∧
      (after (.sbckRise true) (takes .receiving 37)).map (fun t => bufferByte t.responder.intake 0) = some 1 ∧
      (after (.sbckRise true) (takes .receiving 44)).map (fun t => t.responder.pos) = some (.within 45) ∧
      after (.sbckRise false) (takes .decoding 0) = after (.sbckRise true) (takes .decoding 0) := by
  unfold RiseComes; decide +kernel

/-- The bits that the engine takes, at each end of their ranges. -/
theorem test_witness_SbckChanges_engine :
    let s := fun st n f => taking st n none true [f] base
    let e := fun s => (after (.sbckRise true) s).map State.engine
    (RiseComes (s .body 37 rd) true ∧ Runs (s .body 37 rd) 31 rd ∧ (s .body 37 rd).engine.sent = none) ∧
      (e (s .arbitrating 18 wr)).map Engine.pos = some (.within 19) ∧
      (e (s .header 34 wr)).map Engine.st = some .claim ∧
      (e (s .claim 35 wr)).map Engine.claimFirst = some true ∧
      (e (s .body 44 rd)).map (fun e => (bufferByte e.capture 0, e.st)) = some (1, .body) ∧
      (e (s .body 292 rd)).map (fun e => (bufferByte e.capture 31, e.st)) = some (1, .check) ∧
      (e (s .body 44 wr)).map (fun e => (bufferByte e.capture 0, e.st)) = some (0, .check) ∧
      (e (s .check 293 rd)).map (fun e => (e.check, e.st)) = some (1, .check) ∧
      (e (s .check 300 rd)).map (fun e => (e.check, e.st, e.verified)) = some (1, .response, false) ∧
      (e { s .check 300 rd with engine := { (s .check 300 rd).engine with crc := 1 } }).map Engine.verified = some true ∧
      (e (s .check 52 wr)).map (fun e => (e.st, e.verified)) = some (.response, false) := by
  unfold RiseComes Runs; decide +kernel

/-- Bit 20 of a first frame, bit 37 for each kind, and the response slot, taken at SBCK_RISE. -/
theorem test_witness_SbckChanges_slots :
    let s := fun st n b f => taking st n none b [f] base
    let e := fun s => (after (.sbckRise true) s).map fun t => (t.engine.st, t.engine.claim, t.engine.respLow)
    (RiseComes (s .claim 36 false wr) false ∧ Runs (s .claim 36 false wr) 31 wr) ∧
      (after (.sbckRise true) (s .arbitrating 19 true wr)).map
        (fun t => (t.engine.st, t.engine.arb, (slotOf t 31).attempts)) = some (.header, .won, 1) ∧
      [s .claim 36 false wr, s .claim 36 false pr, s .claim 36 true rd, s .response 53 false wr, s .response 301 true rd].map e =
        [(EngineState.body, some ClaimCode.proceed, false), (.claim, some .proceed, false), (.claim, some .busy, false),
          (.response, none, true), (.response, none, false)].map some := by
  unfold RiseComes Runs; decide +kernel

/-- A Responder that answers a frame to window 7, at bit n of it, SBDT driven low. -/
def serving (st : ResponderState) (n : Nat) (f : Frame) : State :=
  { base with responder := { base.responder with
    st := st, pos := .within n, header := headerOf 0 0x30 f, goesOn := true, window := some 7, driveSbdt := true } }

/-- The bits that the Responder takes past the header, at each end of their ranges. -/
theorem test_witness_ResponderBits_rises :
    let s := fun st n f => low (serving st n f)
    let r := fun s => (after (.sbckRise true) s).map State.responder
    (RiseComes (s .sending 37 rd) true ∧ (s .sending 37 rd).engine.phase = .none ∧ frameLen (s .sending 37 rd) = 32) ∧
      (r (s .stalling 35 rd)).map Responder.pos = some (.within 36) ∧
      (r (s .claiming 35 rd)).map Responder.claimFirst = some true ∧
      (r (s .sending 292 rd)).map (fun r => (r.crc, r.st)) = some (0xF9, .sending) ∧
      (r (s .sending 293 rd)).map (fun r => (r.crc, r.st)) = some (0xFF, .sending) ∧
      (r (s .sending 300 rd)).map Responder.st = some .confirming ∧
      (r (s .receiving 45 wr)).map (fun r => (r.check, r.st)) = some (1, .receiving) ∧
      (r { s .receiving 52 wr with responder := { (s .receiving 52 wr).responder with crc := 1 } }).map
        (fun r => (r.st, r.verified)) = some (.confirming, true) ∧
      (r (s .confirming 53 wr)).map Responder.pos = some (.within 54) ∧
      (r (s .stalling 35 rd)).map Responder.st = some .stalling := by
  unfold RiseComes; decide +kernel

/-- The bits that a Responder takes without a claim of its own, and the header of the engine's own frame. -/
theorem test_witness_ResponderBits_passive :
    let s := fun n => low (serving .passive n wr)
    let r := fun s => (after (.sbckRise true) s).map State.responder
    let own := taking .header 34 (some true) true [wr] base |> answering .decoding (.within 34)
    (r (s 35)).map Responder.claimFirst = some true ∧
      (r (s 36)).map (fun r => (r.st, r.pos, r.goesOn)) = some (.listening, .boundary, false) ∧
      (r { s 36 with line := { (s 36).line with sbdt := false } }).map
        (fun r => (r.st, r.pos, r.goesOn)) = some (.passive, .within 37, true) ∧
      (r (s 52)).map Responder.pos = some (.within 53) ∧
      (r (s 53)).map (fun r => (r.st, r.pos, r.high)) = some (.listening, .boundary, .lastBit) ∧
      (r (low (answering .listening .boundary base))).map Responder.high = some .condition ∧
      (own.engine.pos = .within 34 ∧ own.responder.pos = .within 34 ∧ RiseComes own true) ∧
      (r own).map (fun r => (r.st, r.pos)) = some (.passive, .within 35) := by
  unfold RiseComes; decide +kernel

/-- What a fall of SBCK sets in motion at a Responder with the given claim code and verified bit. -/
def fallAt (st : ResponderState) (k : ClaimCode) (n : Nat) (f : Frame) : Option (Bool × Bool × Option Nat) :=
  let s := serving st n f
  (after .sbckFall { s with responder := { s.responder with code := k, verified := true } }).map
    fun t => (t.responder.want, t.responder.commits, t.responder.delay)

theorem test_witness_ResponderBits_falls :
    (base.line.sbck = true ∧ base.engine.phase = .none) ∧
      [fallAt .claiming .busy 35 wr, fallAt .claiming .busy 36 wr, fallAt .claiming .refuse 35 wr,
          fallAt .claiming .refuse 36 wr, fallAt .confirming .proceed 53 wr, fallAt .confirming .proceed 301 rd] =
        [(true, false), (false, false), (false, false), (true, false), (true, true), (false, false)].map
          fun (want, commits) => some (want, commits, some 10) := by decide +kernel

/-- The end of the response slot, with the window's frame over and with the window still in-frame, and the high phase of a BOUNDARY. -/
theorem test_witness_ResponderBits_ends :
    let s := serving .confirming 54 wr
    let inFrame := withWindow 7 { window 0x22 with inFrame := true, hold := .pending }
      { s with hold := { s.hold with reservation := true } }
    let bound := fun h => { base with responder := { base.responder with pos := .boundary, high := h } }
    (s.responder.window = some 7 ∧ (windowOf s 7).inFrame = false ∧ (windowOf inFrame 7).inFrame = true) ∧
      (after .sbckFall s).map (fun t => (t.responder.st, t.responder.pos, t.responder.delay)) =
        some (.listening, .boundary, some 10) ∧
      (after .sbckFall inFrame).map
        (fun t => (t.responder.pos, t.hold.reservation, (windowOf t 7).inFrame, (windowOf t 7).hold, t.events.flags)) =
        some (.boundary, false, false, .held, 0x004) ∧
      (after .sbckFall (bound .condition)).map (fun t => t.responder.pos) = some .between ∧
      (after .sbckFall (bound .lastBit)).map (fun t => (t.responder.pos, t.responder.high)) = some (.boundary, .plain) := by decide +kernel

theorem test_witness_LineChangesAndStates :
    let dark := low base
    let dark' := { dark with line := { dark.line with sbdt := false } }
    let gone := { base with engine := { Engine.reset with st := .released } }
    (dark.line.sbck = false ∧ dark.line.sbdt = true ∧ dark'.line.sbdt = false ∧ ownSbdt dark' = false) ∧
      (after .sbdtChange dark).map (fun t => t.line.sbdt) = some false ∧
      (after .sbdtChange dark').map (fun t => t.line.sbdt) = some true ∧
      (base.line.state = .active ∧ base.engine.phase = .none ∧ base.responder.delay = none ∧ base.responder.release = none) ∧
      (after .lineQuiet base).map (fun t => (t.line.state, t.line.quietTb)) = some (.quiet, 32) ∧
      (after .lineQuiet gone).map (fun t => t.engine.st) = some .idle ∧
      (after .lineQuiet { choosing with line := { choosing.line with state := .active } }).map (fun t => t.engine.held) = some (some 31) ∧
      (after (.lineActive .sbck) choosing).map (fun t => (t.line.state, t.line.sbck)) = some (.active, false) ∧
      (after (.lineActive .sbdt) choosing).map (fun t => (t.line.state, t.responder.st)) = some (.active, .decoding) := by
  decide +kernel

/-- A line that reads low between the choice and the Start. -/
theorem test_witness_LineChangesAndStates_startDue :
    let s := { choosing with engine := { Engine.reset with st := .arbitrating, phase := .startDue } }
    (s.engine.phase = .startDue ∧ s.line.state = .quiet) ∧
      (after (.lineActive .sbdt) s).map (fun t => (t.line.state, t.responder.st, t.engine.phase)) =
        some (.active, .decoding, .startDue) ∧
      (after (.lineActive .sbck) s).map (fun t => (t.line.sbck, t.engine.phase)) = some (false, .startDue) := by
  decide +kernel

theorem test_witness_LineStuck :
    let due := fun (s : State) => { s with line := { s.line with stuckDue := true } }
    let f := due (running [wr] { Engine.reset with st := .body, phase := .waiting, arb := .won } (low base))
    let stopping := { f with port := { f.port with state := .stopping } }
    (f.line.stuckDue = true ∧ f.line.state ≠ .stuck ∧ f.port.state = .running ∧ f.engine.st.inFrame = true) ∧
      (after .lineStuck f).map (fun t => (t.port.state, t.line.state, t.engine.st, t.events.flags)) =
        some (.fault, .stuck, .idle, 0x021) ∧
      (after .lineStuck f).map State.store =
        some (attemptEnd 31 .busStuck true { f with port := { f.port with state := .fault } }).store ∧
      (after .lineStuck stopping).map (fun t => (t.port.state, t.line.state, t.events.flags)) = some (.disabled, .active, 0x100) ∧
      (after .lineStuck (due State.reset)).map (fun t => (t.port.state, t.line.state)) = some (.disabled, .stuck) := by
  decide +kernel

/-- PORT_DISABLE and the stuck report in both orders, with the engine IDLE and with a frame in progress. -/
theorem test_witness_LineStuck_disable :
    let due := fun (s : State) => writing 0x004 { s with line := { s.line with stuckDue := true } }
    let f := due (running [wr] { Engine.reset with st := .body, phase := .waiting, arb := .won } (low base))
    let stopped := fun (t : State) => (t.port.state, t.line.state, t.events.flags)
    (WriteOpen 0x004 (due (low base)) ∧ (due (low base)).port.state = .running ∧ (due (low base)).line.state ≠ .stuck) ∧
      ((after .portDisable (due (low base))).bind (after .lineStuck)).map stopped = some (.disabled, .stuck, 0x100) ∧
      ((after .lineStuck (due (low base))).bind (after .portDisable)).map stopped = some (.disabled, .active, 0x020) ∧
      ((after .portDisable f).bind (after .lineStuck)).map (fun t => (stopped t, (slotOf t 31).state)) =
        some ((.disabled, .active, 0x100), .waiting) ∧
      ((after .lineStuck f).bind (after .portDisable)).map (fun t => (stopped t, (slotOf t 31).outcome)) =
        some ((.disabled, .active, 0x021), some .busStuck) := by
  unfold WriteOpen; decide +kernel

/-- The engine, the Responder and the port agree in a part with a frame in progress. -/
theorem test_witness_LineStuck_consistent :
    PortConsistent (running [wr] { Engine.reset with st := .body, phase := .waiting, arb := .won } (low base)) := by
  unfold PortConsistent PortHoldsEngine PortHoldsResponder PortHoldsRecovery; decide +kernel

/-- The longest and the shortest header of each kind. -/
theorem test_witness_CheckAndHeaderRoundTrip :
    let back := fun (prio : BitVec 4) (own : Byte) (f : Frame) =>
      (List.range 35).foldl (fun c j => headerShift c ((headerOf prio own f).getMsbD j)) 0
    (rd.kind ≠ .probe → 1 ≤ rd.length ∧ rd.length ≤ 32) ∧ back 15 254 rd = headerOf 15 254 rd ∧
      headerLength (back 15 254 rd) = 32 ∧ headerLength (back 0 1 wr) = 1 ∧ headerDest (back 15 254 rd) = 0x22 ∧
      headerKind (back 0 1 pr) = some .probe ∧ headerSource (back 0 1 pr) = 1 ∧ headerPrio (back 15 254 wr) = 15 := by
  decide +kernel

/-! ### The Responder, windows and page memory -/

theorem test_witness_ConditionsAtResponder :
    let d := fun (s : State) => { s with line := { s.line with sbdt := false } }
    let open' := answering .receiving (.within 300) base
    let bound := answering .listening .boundary base
    let lastBit := { bound with responder := { bound.responder with high := .lastBit } }
    (base.engine.phase = .none ∧ base.port.recovery = .none ∧ base.responder.st ≠ .off ∧ base.line.state ≠ .quiet ∧
      base.line.sbck = true ∧ base.line.sbdt = true ∧ ownSbdt (d base) = false) ∧
      (after .busStart base).map (fun t => (t.responder.st, t.responder.pos)) = some (.decoding, .within 0) ∧
      (after .busStart bound).map (fun t => t.responder.st) = some .decoding ∧
      (after .busStart open').map (fun t => t.responder.st) = some .decoding ∧
      (after .busStop (d base)).map (fun t => t.responder) = some base.responder ∧
      (after .busStop (d bound)).map (fun t => t.responder.pos) = some .between ∧
      (after .busStop (d open')).map (fun t => (t.responder.st, t.responder.pos)) = some (.listening, .between) ∧
      (after .busStop (d lastBit)).map (fun t => t.responder.pos) = some .between := by decide +kernel

/-- A Start on a QUIET bus, and a Start and a Stop at a Responder that is OFF. -/
theorem test_witness_ConditionsAtResponder_quiet :
    let q := { base with line := { base.line with state := .quiet } }
    let off := { base with responder := Responder.reset }
    let off' := { off with line := { off.line with sbdt := false } }
    (after .busStart q).map (fun t => (t.line.state, t.responder.st, t.responder.pos)) = some (.active, .decoding, .within 0) ∧
      (after .busStart off).map (fun t => (t.line.sbdt, t.responder)) = some (false, Responder.reset) ∧
      (after .busStop off').map (fun t => (t.line.sbdt, t.responder)) = some (true, Responder.reset) := by decide +kernel

/-- A frame of another node for a destination, at its 34th header bit, with its last bit on the line. -/
def deciding (source : Byte) (f : Frame) (s : State) : State :=
  let h := headerOf 0 source f
  { s with
    responder := { s.responder with st := .decoding, pos := .within 34, header := h >>> 1 }
    line := { s.line with sbck := false, sbdt := h.getLsbD 0 } }

/-- A notify queue of 16 records. -/
def notifyFull (s : State) : State :=
  { s with hold := { s.hold with queue := List.replicate 16 ⟨0, 0, 1, 1, 0⟩ } }

/-- The premises of the claim decision, and the frames that are not the part's. -/
theorem test_witness_ClaimDecision :
    let w := withWindow 7 (window 0x22) base
    let s := deciding 0x30 wr w
    let st := fun t : State => (t.responder.st, t.responder.code)
    (RiseComes (responderCountEnd s) false ∧ s.engine.st = .idle ∧ WindowsDistinct s) ∧
      (after .claimDecision s).map st = some (.claiming, .proceed) ∧
      (after .claimDecision (deciding 0x30 wr base)).map st = some (.passive, .none) ∧
      (after .claimDecision (deciding 0 wr w)).map st = some (.passive, .none) ∧
      (after .claimDecision (deciding 255 wr w)).map st = some (.passive, .none) ∧
      (after .claimDecision (deciding 0x10 wr w)).map (fun t => t.events.flags) = some 0x200 := by
  unfold RiseComes WindowsDistinct; decide +kernel

/-- The rows of the claim table, an access to the window's last byte and one beyond it. -/
theorem test_witness_ClaimDecision_rows :
    let w := fun x => withWindow 7 x base
    let go := fun f x => (after .claimDecision (deciding 0x30 f (w x))).map fun t => (t.responder.st, t.responder.code)
    go pr { window 0x22 with access := .writeOnly, hold := .held } = some (.claiming, .proceed) ∧
      go rd { window 0x22 with access := .writeOnly } = some (.claiming, .refuse) ∧
      go wr { window 0x22 with access := .readOnly } = some (.claiming, .refuse) ∧
      go { rd with offset := 224 } (window 0x22) = some (.claiming, .proceed) ∧
      go { rd with offset := 225 } (window 0x22) = some (.claiming, .refuse) ∧
      go rd { window 0x22 with hold := .held } = some (.claiming, .busy) ∧
      go rd { window 0x22 with hold := .held, contention := .stall } = some (.stalling, .none) ∧
      (after .claimDecision (deciding 0x30 wr (notifyFull (w { window 0x22 with notify := true })))).map
        (fun t => (t.responder.code, t.hold.reasonFull)) = some (.busy, true) ∧
      (after .claimDecision (deciding 0x30 rd (notifyFull (w { window 0x22 with notify := true })))).map
        (fun t => t.responder.code) = some .proceed := by decide +kernel

/-- A Responder that drove a claim, at the second claim bit. -/
def claiming (f : Frame) (c : ClaimCode) (first second : Bool) (s : State) : State :=
  { s with
    responder := { s.responder with
      st := .claiming, pos := .within 36, header := headerOf 0 0x30 f, code := c, claimFirst := first, window := some 7 }
    line := { s.line with sbck := false, sbdt := second } }

theorem test_witness_ResponderClaim :
    let st := fun t : State => (t.responder.st, t.responder.pos)
    (RiseComes (responderCountEnd (claiming rd .proceed false false base)) false ∧ claimOfBits false false = .proceed) ∧
      (after .responderClaim (claiming rd .proceed false false base)).map st = some (.sending, .within 37) ∧
      (after .responderClaim (claiming wr .proceed false false base)).map st = some (.receiving, .within 37) ∧
      (after .responderClaim (claiming wr .busy false false base)).map st = some (.passive, .within 37) ∧
      (after .responderClaim (claiming pr .proceed false false base)).map st = some (.listening, .boundary) ∧
      (after .responderClaim (claiming wr .busy false true base)).map st = some (.listening, .boundary) := by
  unfold RiseComes; decide +kernel

/-- A PROCEED that the line shows as BUSY ends the frame of its window by discard. -/
theorem test_witness_ResponderClaim_discard :
    let s := withWindow 7 { window 0x22 with inFrame := true, notify := true, hold := .pending }
      { (claiming wr .proceed false true base) with hold := { base.hold with reservation := true } }
    (claimOfBits false true ≠ .proceed ∧ s.responder.window = some 7 ∧ (windowOf s 7).inFrame = true) ∧
      (after .responderClaim s).map
        (fun t => (t.responder.st, t.hold.reservation, (windowOf t 7).inFrame, (windowOf t 7).hold, t.events.flags)) =
        some (.listening, false, false, .held, 0x004) := by decide +kernel

/-- A verified WRITE of 32 bytes to the end of page memory, about to drive ACCEPT. -/
def committing (posts : Bool) : State :=
  let s := withWindow 7 { window 0x22 with inFrame := true, notify := true, hold := .pending } (low base)
  { s with
    hold := { s.hold with reservation := posts, sequence := 255 }
    responder := { s.responder with
      st := .confirming, pos := .within 301, header := headerOf 0 0x30 { rd with kind := .write, offset := 224 },
      intake := Vector.replicate 32 9, window := some 7, verified := true, delay := some 1, want := true, commits := true } }

theorem test_witness_Commit :
    let s := committing true
    (s.responder.delay = some 1 ∧ s.responder.commits = true ∧ s.responder.want = true ∧ s.responder.release = none ∧
      s.responder.window = some 7 ∧ s.line.sbck = false ∧ s.line.sbdt = true ∧ (windowOf s 7).inFrame = true ∧
      s.page.wf = true ∧ 768 + headerOffset s.responder.header + headerLength s.responder.header = 1024) ∧
      (after .commit s).map (fun t => (t.page.read 991, t.page.read 992, t.page.read 1023, t.page.wf)) = some (0, 9, 9, true) ∧
      (after .commit s).map (fun t => t.hold.queue) = some [⟨7, 224, 32, 0x30, 255⟩] ∧
      (after .commit s).map (fun t => (t.hold.sequence, t.events.flags, (windowOf t 7).hold)) = some (0, 0x006, .held) ∧
      (after .commit (committing false)).map (fun t => t.events.flags) = some 0x004 := by decide +kernel

/-- The same commit where SBDT reads low already. -/
theorem test_witness_Commit_low :
    let s := { committing true with line := { (committing true).line with sbdt := false } }
    (s.responder.want = true ∧ s.line.sbck = false ∧ (windowOf s 7).inFrame = true) ∧
      (after .commit s).map (fun t => (t.page.read 1023, t.line.sbdt, t.hold.queue.length, t.responder.driveSbdt)) =
        some (9, false, 1, true) := by decide +kernel

theorem test_witness_ReadSlotAndWriteCheckFail :
    let at' := fun st n f => low (withWindow 7 { window 0x22 with inFrame := true, hold := .pending }
      { base with responder := { base.responder with
          st := st, pos := .within n, header := headerOf 0 0x30 f, window := some 7, crc := 0x02 } })
    (RiseComes (responderCountEnd (at' .confirming 301 rd)) true ∧ 301 = 45 + 8 * frameLen (at' .confirming 301 rd)) ∧
      (after .readResponseSlot (at' .confirming 301 rd)).map (fun t => (t.responder.pos, (windowOf t 7).hold, t.events.flags)) =
        some (.within 302, .held, 0x004) ∧
      (RiseComes (responderCountEnd (at' .receiving 52 wr)) true ∧ shiftIn (at' .receiving 52 wr).responder.check true ≠ 0x02) ∧
      (after .writeCheckFail (at' .receiving 52 wr)).map (fun t => (t.responder.st, t.responder.verified, (windowOf t 7).inFrame)) =
        some (.confirming, false, false) := by
  unfold RiseComes; decide +kernel

/-- A window edit area. -/
def windowEditing (w0 w1 : Word) (s : State) : State := writing 0x004 { s with edit := { s.edit with window0 := w0, window1 := w1 } }

theorem test_witness_WindowCommands :
    let off := fun w => writing 0x004 (withWindow 7 { w with enabled := false } (withWindow 0 (window 0x41) base))
    let on := fun w => writing 0x004 (withWindow 7 w base)
    answer (.windowWrite 8) (on (window 0x40)) = some (.badWindow, 0) ∧
      answer (.windowWrite 7) (on (window 0x40)) = some (.windowEnabled, 7) ∧
      (after (.windowWrite 7) (windowEditing 0x010003FF 0x003205FE base)).map (fun t => windowOf t 7) =
        some ⟨false, 0xFE, 1023, 256, .writeOnly, true, .stall, 5, .open, false⟩ ∧
      answer (.windowEnable 7) (off (window 0x40)) = some (.ok, 7) ∧
      answer (.windowEnable 7) (off { window 0x40 with base := 769 }) = some (.badWindow, 7) ∧
      answer (.windowEnable 7) (off { window 0x40 with contention := .stall, stallMs := 0 }) = some (.badWindow, 7) ∧
      answer (.windowEnable 7) (off (window 0x41)) = some (.duplicate, 0) ∧
      answer (.windowEnable 7) (on (window 0x40)) = some (.ok, 7) ∧ answer (.windowDisable 7) (off (window 0x40)) = some (.ok, 7) ∧
      answer (.windowDisable 7) (on { window 0x40 with inFrame := true }) = some (.windowActive, 7) ∧
      (after (.windowDisable 7) (on { window 0x40 with hold := .held })).map (fun t => windowOf t 7) =
        some { window 0x40 with enabled := false } := by decide +kernel

/-! ### Holds, stalls and the notify queue -/

theorem test_witness_HoldReleasePop :
    let on := fun w => writing 0x004 (withWindow 7 w base)
    (on (window 0x40)).responder.st ≠ .stalling ∧ answer (.holdWindow 8) (on (window 0x40)) = some (.badWindow, 0) ∧
      answer (.releaseWindow 0xFFFF) (on (window 0x40)) = some (.badWindow, 0) ∧
      answer (.holdWindow 0) (on (window 0x40)) = some (.badWindow, 0) ∧
      answer (.holdWindow 7) (on (window 0x40)) = some (.held, 7) ∧
      answer (.holdWindow 7) (on { window 0x40 with inFrame := true }) = some (.pending, 7) ∧
      answer (.holdWindow 7) (on { window 0x40 with inFrame := true, hold := .pending }) = some (.pending, 7) ∧
      answer (.holdWindow 7) (on { window 0x40 with hold := .held }) = some (.held, 7) ∧
      answer (.releaseWindow 7) (on (window 0x40)) = some (.notHeld, 7) ∧
      (after (.releaseWindow 7) (on { window 0x40 with hold := .held })).map (fun t => (windowOf t 7).hold) = some .open ∧
      answer .popNotify (on (window 0x40)) = some (.empty, 0) ∧
      (after .popNotify (writing 0x004 (notifyFull base))).map (fun t => t.hold.queue.length) = some 15 := by decide +kernel

/-- A frame stalled by window 7, with SBCK held or not yet. -/
def stalled (f : Frame) (w : Window) (held : Bool) (s : State) : State :=
  let t := withWindow 7 w s
  { t with
    hold := { t.hold with stallTimer := some 0, stallWindow := some 7, reasonHeld := w.hold == .held }
    responder := { t.responder with
      st := .stalling, pos := .within 35, header := headerOf 0 0x30 f, window := some 7, driveSbck := held } }

theorem test_witness_StallsEnd :
    let h := writing 0x004 (low (stalled rd { window 0x22 with hold := .held, contention := .stall } true base))
    let o := writing 0x004 (notifyFull (stalled wr { window 0x22 with notify := true, contention := .stall } false base))
    (h.responder.st = .stalling ∧ h.hold.stallWindow = some 7 ∧ h.responder.driveSbck = true ∧ h.hold.stallTimer = some 0 ∧
      frameKind h = some .read) ∧
      (after .stallExpiry h).map (fun t => (t.responder.code, t.responder.release, t.line.sbdt)) = some (.busy, some 10, false) ∧
      (after (.releaseWindow 7) h).map (fun t => (t.responder.st, t.responder.code, (windowOf t 7).inFrame, t.hold.stallTimer)) =
        some (.claiming, .proceed, true, none) ∧
      (o.hold.queue.length = 16 ∧ o.hold.reservation = false ∧ (windowOf o 7).hold = .open ∧ frameKind o = some .write) ∧
      (after .popNotify o).map (fun t => (t.responder.code, t.hold.reservation, t.hold.queue.length)) = some (.proceed, true, 15) ∧
      (after (.holdWindow 7) { o with responder := { o.responder with driveSbck := true } }).map
        (fun t => (t.responder.st, t.hold.reasonHeld, t.hold.reasonFull)) = some (.stalling, true, true) := by decide +kernel

/-- A stall before SBCK is held; the stall of a WRITE ended by RELEASE_WINDOW and by POP_NOTIFY with SBCK held; a release and a pop that leave the other reason. -/
theorem test_witness_StallsEnd_more :
    let w := { window 0x22 with hold := .held, notify := true, contention := .stall }
    let early := stalled rd w false base
    let h := fun s => writing 0x004 (low (stalled wr w true s))
    let full := writing 0x004 (low (notifyFull (stalled wr { w with hold := .open } true base)))
    let seen := fun (t : State) => (t.responder.st, t.responder.release, t.line.sbdt, t.hold.reservation)
    let reasons := fun (t : State) => (t.responder.st, t.hold.reasonHeld, t.hold.reasonFull)
    (early.responder.driveSbck = false ∧ (h base).responder.driveSbck = true ∧ full.hold.queue.length = 16) ∧
      (after .stallExpiry early).map seen = some (.claiming, none, true, false) ∧
      (after (.releaseWindow 7) (h base)).map seen = some (.claiming, some 10, false, true) ∧
      (after .popNotify full).map seen = some (.claiming, some 10, false, true) ∧
      (after (.releaseWindow 7) (h (notifyFull base))).map reasons = some (.stalling, false, true) ∧
      (after .popNotify (h (notifyFull base))).map reasons = some (.stalling, true, false) := by decide +kernel

/-- The answers that change nothing but the result, during a stall. -/
theorem test_witness_HoldReleasePop_stalling :
    let s := writing 0x004 (stalled rd { window 0x22 with hold := .held, contention := .stall } true base)
    s.responder.st = .stalling ∧
      [Instr.holdWindow 8, .releaseWindow 8, .holdWindow 0, .holdWindow 7, .releaseWindow 0, .popNotify].map (answer · s) =
        [(.badWindow, 0), (.badWindow, 0), (.badWindow, 0), (.held, 7), (.notHeld, 0), (.empty, 0)].map some := by
  decide +kernel

/-- During a stall: hold of window 0, state of the Responder, whether the stall timer runs as it did with a reason shown, queue length. -/
def stallAfter (c : Instr) (s : State) : Option (HoldState × ResponderState × Bool × Nat) :=
  (after c s).map fun t =>
    ((windowOf t 0).hold, t.responder.st,
      t.hold.stallTimer == some 0 && (t.hold.reasonHeld || t.hold.reasonFull), t.hold.queue.length)

/-- Commands on another window leave the stall as it is. -/
theorem test_witness_StallsEnd_otherWindow :
    let s := fun f w1 => writing 0x004 (withWindow 0 w1
      (low (stalled f { window 0x22 with hold := .held, notify := true, contention := .stall } true base)))
    ((s rd (window 0x40)).hold.stallWindow = some 7 ∧ (windowOf (s rd (window 0x40)) 0).hold = .open) ∧
      [stallAfter (.holdWindow 0) (s rd (window 0x40)), stallAfter (.holdWindow 0) (s wr { window 0x40 with inFrame := true }),
          stallAfter (.releaseWindow 0) (s wr { window 0x40 with hold := .held }),
          stallAfter (.releaseWindow 7) (s rd (window 0x40))] =
        [(HoldState.held, ResponderState.stalling, true, 0), (.pending, .stalling, true, 0),
          (.open, .stalling, true, 0), (.open, .claiming, false, 0)].map some := by decide +kernel

/-- POP_NOTIFY of a queue of one record in the stall of a READ and of a WRITE, a reason left or none. -/
theorem test_witness_StallsEnd_popped :
    let s := fun f h => writing 0x004 (stalled f { window 0x22 with hold := h, notify := true, contention := .stall } true
      { base with hold := { base.hold with queue := [⟨0, 0, 1, 1, 5⟩] } })
    (s rd .held).hold.stallWindow = some 7 ∧
      [s rd .held, s wr .held, s rd .open, s wr .open].map (stallAfter .popNotify) =
        [(HoldState.open, ResponderState.stalling, true, 0), (.open, .stalling, true, 0),
          (.open, .claiming, false, 0), (.open, .claiming, false, 0)].map some := by decide +kernel

/-! ### The port -/

/-- A part in a port state. -/
def inPort (p : PortState) : State :=
  writing 0x004 { State.reset with
    port := { State.reset.port with state := p }, cfg := { State.reset.cfg with ownAddr := 254, bitDiv := 40 } }

theorem test_witness_PortCommands :
    let cfg := fun a d => { inPort .disabled with cfg := { (inPort .disabled).cfg with ownAddr := a, bitDiv := d } }
    let busy := { inPort .running with engine := { Engine.reset with st := .released } }
    answer .portEnable (inPort .fault) = some (.portState, 0) ∧ answer .portEnable (cfg 255 40) = some (.portConfig, 0) ∧
      answer .portEnable (cfg 0 40) = some (.portConfig, 0) ∧ answer .portEnable (cfg 1 39) = some (.portConfig, 0) ∧
      answer .portEnable (cfg 1 1601) = some (.portConfig, 0) ∧ answer .portEnable (cfg 1 1600) = some (.ok, 0) ∧
      (after .portEnable (inPort .disabled)).map (fun t => (t.port.state, t.responder.st)) = some (.running, .listening) ∧
      (after .portDisable (inPort .running)).map (fun t => (t.port.state, t.events.flags)) = some (.disabled, 0x100) ∧
      (after .portDisable busy).map (fun t => (t.port.state, t.host.last)) = some (.stopping, some (.started, 0)) := by decide +kernel

theorem test_witness_PortCommands_fault :
    let f := inPort .fault
    (after .portDisable f).map (fun t => (t.port.state, t.events.flags)) = some (.disabled, 0) ∧
      (after .recover (low f)).map (fun t => (t.port.state, t.events.flags)) = some (.fault, 0x080) ∧
      (after .recover f).map (fun t => (t.port.state, t.port.recovery)) = some (.recovering, .stopLow) ∧
      (after .recover { f with line := { f.line with sbdt := false } }).map (fun t => t.port.recovery) = some .pulseLow ∧
      answer .portDisable (inPort .recovering) = some (.portState, 0) ∧ answer .recover (inPort .running) = some (.portState, 0) := by
  decide +kernel

/-- A recovery at a place of its sequence. -/
def recovering (r : RecoveryPhase) (pulses : Nat) (taken : Bool) : State :=
  { inPort .recovering with
    port := { (inPort .recovering).port with recovery := r, left := 1, pulses := pulses, taken := taken }
    line := { State.reset.line with sbdt := taken } }

theorem test_witness_RecoverySequence :
    let stop := { recovering .stopEnd 16 false with line := { State.reset.line with sbdt := false } }
    ((recovering .pulseHigh 15 false).port.state = .recovering ∧ stop.responder.delay = none ∧ stop.responder.release = none) ∧
      (after .recoveryPulse (recovering .pulseHigh 16 true)).map (fun t => t.port.recovery) = some .stopLow ∧
      (after .recoveryPulse (recovering .pulseHigh 15 false)).map (fun t => t.port.recovery) = some .pulseLow ∧
      (after .recoveryFailed (recovering .pulseHigh 16 false)).map (fun t => (t.port.state, t.events.flags)) = some (.fault, 0x080) ∧
      (after .recoveryFailed (recovering .pulseRise 1 false)).map (fun t => t.port.state) = some .fault ∧
      (after .recoveryFailed (recovering .stopRise 1 false)).map (fun t => t.port.state) = some .fault ∧
      (after .recoveryFailed stop).map (fun t => t.port.state) = some .fault ∧
      (stop.line.sbck = true ∧ ownSbdt stop = false ∧ stop.engine.phase = .none ∧ stop.responder.st = .off) ∧
      (after .recoveryDone stop).map (fun t => (t.port.state, t.responder.st, t.events.flags)) = some (.running, .listening, 0x040) := by
  decide +kernel

/-- Each step of a pulse and of the Stop phase. -/
theorem test_witness_RecoverySequence_steps :
    let r := fun p => recovering p 3 false
    let up := fun p => low { (recovering p 3 true) with responder := Responder.reset }
    let step := fun s => (after (.phaseCountEnd .controller) s).map fun t => (t.port.recovery, t.port.left, t.port.pulses)
    step (r .pulseLow) = some (.pulseRise, 20, 4) ∧ step (r .stopLow) = some (.stopData, 10, 3) ∧
      step (r .stopData) = some (.stopRise, 20, 3) ∧ step (r .stopHalf) = some (.stopEnd, 10, 3) ∧
      (after (.phaseCountEnd .controller) (r .pulseRise)).map (fun t => t.port.state) = some .fault ∧
      ((up .pulseRise).line.sbck = false ∧ ownSbck (up .pulseRise) = false ∧ (up .pulseRise).responder.pos = .between) ∧
      (after (.sbckRise true) (up .pulseRise)).map (fun t => (t.port.recovery, t.port.left, t.port.taken)) =
        some (.pulseHigh, 20, true) ∧
      (after (.sbckRise true) (up .stopRise)).map (fun t => (t.port.recovery, t.port.left)) = some (.stopHalf, 10) := by
  decide +kernel

/-! ### Invariants -/

/-- A part with an ACTIVE, a WAITING and a DONE request, a PENDING and a HELD window, a notify record with a reservation, a byte of page memory, and a command that waits. -/
def loaded : State :=
  let s := running [wr, pr] { Engine.reset with st := .header, arb := .won, phase := .high, pos := .within 25 } base
  let t := withSlot 0 (slot .waiting 2 .expedite [rd]) (withSlot 1 (slot .done 3 .standard [pr]) (withNode (node 2) s))
  { withWindow 0 { window 0x40 with hold := .held } (withWindow 7 { window 0x41 with inFrame := true, hold := .pending } t) with
    pending := [.msTick]
    sched := { t.sched with exp := [0] }
    completions := [⟨1, 3, .done, 1, none, none, 1, 0, 0⟩]
    hold := { t.hold with queue := List.replicate 15 ⟨0, 0, 1, 1, 0⟩, reservation := true }
    page := [(1023, 5)] }

theorem test_witness_RequestsStayConsistent : RequestsConsistent loaded ∧ ∃ t, step loaded = .next t := by
  refine ⟨⟨⟨?_, by decide +kernel, by decide +kernel, by decide +kernel, by decide +kernel⟩, ?_, ?_⟩, _, rfl⟩
  · intro q; cases q <;> decide +kernel
  · unfold RecordsExact; decide +kernel
  · refine ⟨by decide +kernel, ?_, by decide +kernel, by decide +kernel, by decide +kernel⟩
    intro k hk
    have : k = 31 := (Option.some.inj (hk.symm.trans (rfl : loaded.engine.held = some 31)))
    subst this
    decide +kernel

/-- The only entry in use. -/
theorem loaded_nodes (i : Fin 16) (n : NodeEntry) (h : tget loaded.nodes i = some n) : i = 15 ∧ n = node 2 := by
  have other : ∀ i : Fin 16, i ≠ 15 → tget loaded.nodes i = none := by decide +kernel
  have own : tget loaded.nodes 15 = some (node 2) := by decide +kernel
  have e : i = 15 := Decidable.byContradiction fun e => by rw [other i e] at h; exact absurd h (by simp)
  subst e
  exact ⟨rfl, (Option.some.inj (own.symm.trans h)).symm⟩

theorem test_witness_RefsStayExact : NodesDistinct loaded ∧ RefsExact loaded := by
  refine ⟨⟨fun i n h => ?_, fun i j n m hi hj _ => ?_⟩, by decide +kernel, fun i n h => ?_⟩
  · rw [(loaded_nodes i n h).2]; decide
  · rw [(loaded_nodes i n hi).1, (loaded_nodes j m hj).1]
  · rw [(loaded_nodes i n h).2]; decide +kernel

theorem test_witness_TagsStayDistinct : TagsDistinct loaded := by
  have tags : ∀ k : Fin 32, (slotOf loaded k).live = true →
      (k = 31 ∧ (slotOf loaded k).tag = some 1) ∨ (k = 0 ∧ (slotOf loaded k).tag = some 2) ∨
        (k = 1 ∧ (slotOf loaded k).tag = some 3) := by decide +kernel
  refine ⟨by decide, fun k hk => ?_⟩
  rcases tags k hk with ⟨e, h⟩ | ⟨e, h⟩ | ⟨e, h⟩
  all_goals
    refine ⟨_, h, by decide, fun j hj hj' => ?_⟩
    rcases tags j hj with ⟨e', h'⟩ | ⟨e', h'⟩ | ⟨e', h'⟩ <;>
      first | exact e'.trans e.symm | exact absurd (h'.symm.trans hj') (by decide)

theorem test_witness_SuspendedStaysUnnamed : SuspendedUnnamed loaded := by unfold SuspendedUnnamed; decide +kernel

theorem test_witness_AddressesStayDistinct : WindowsDistinct loaded := by unfold WindowsDistinct; decide +kernel

theorem test_witness_HoldsStayLegal : HoldsLegal loaded := by unfold HoldsLegal; decide +kernel

/-- A Responder past PROCEED, its window the one that is in-frame. -/
theorem test_witness_HoldsStayLegal_frame :
    let s := withWindow 7 { window 0x22 with inFrame := true } (claiming rd .proceed false false base)
    PortConsistent s ∧ FrameHeld s := by
  refine ⟨by unfold PortConsistent PortHoldsEngine PortHoldsResponder PortHoldsRecovery; decide +kernel, fun i hi => ?_, ?_⟩
  · have only : ∀ j : Fin 8, (windowOf (withWindow 7 { window 0x22 with inFrame := true }
        (claiming rd .proceed false false base)) j).inFrame = true → j = 7 := by decide +kernel
    exact ⟨by rw [only i hi]; decide +kernel, ⟨36, by decide +kernel⟩, .inl (by decide +kernel)⟩
  · exact fun h => absurd h (by decide +kernel)

theorem test_witness_NotifyStaysWithinSixteen : NotifyFits loaded := by unfold NotifyFits; decide +kernel

theorem test_witness_PageStaysCanonical : PageCanonical loaded := by unfold PageCanonical; decide +kernel

theorem test_witness_PortStaysConsistent : PortConsistent loaded := by
  unfold PortConsistent PortHoldsEngine PortHoldsResponder PortHoldsRecovery; decide +kernel

end Sys2Proof.Tests
end

/-! The Node Table at the two resets (R62): RST# empties it, SOFT_RESET resets the run-time fields of every entry in use. -/

namespace Sys2Proof.Machine

/-! ### The two resets as steps -/

/-- RST# answers the state in which every block has its reset values (R183). -/
theorem exec_rst (csHigh sbckHigh sbdtHigh : Bool) (s : State) :
    exec (.rst csHigh sbckHigh sbdtHigh) s = .next (hardReset csHigh sbckHigh sbdtHigh s) := rfl

/-- SOFT_RESET in an open write transaction: its state, with OK posted (R181, R189). -/
theorem exec_softReset_open {s : State} (w : WriteOpen 0x004 s) :
    exec .softReset s = .next ((softResetState s).setHost (posted .ok 0 s.host)) := by
  have posts : pointerUp (runCommand softResetCommand s) = (softResetState s).setHost (posted .ok 0 s.host) :=
    runCommand_posted rfl
  calc exec .softReset s = .next (hostCommand softResetCommand s) := rfl
    _ = .next ((softResetState s).setHost (posted .ok 0 s.host)) := by rw [hostCommand_open w, posts]

/-! ### What the resets leave in the blocks that R62 names -/

@[simp] theorem tget_hardReset_nodes (a b c : Bool) (s : State) (i : Fin 16) :
    tget (hardReset a b c s).nodes i = none := tget_replicate none i

@[simp] theorem hardReset_edit (a b c : Bool) (s : State) : (hardReset a b c s).edit = State.reset.edit := rfl

@[simp] theorem tget_softResetState_nodes (s : State) (i : Fin 16) :
    tget (softResetState s).nodes i = (tget s.nodes i).map NodeEntry.softReset := tget_tmap _ _ i

@[simp] theorem softResetState_edit (s : State) : (softResetState s).edit = s.edit := rfl

@[simp] theorem softResetState_flags (s : State) : (softResetState s).events.flags = 0 := rfl

@[simp] theorem slotOf_softResetState (s : State) (k : Fin 32) : slotOf (softResetState s) k = Slot.free :=
  tget_replicate Slot.free k

/-! ### The node edit area in the register window (R202) -/

theorem readLive_node0 (s : State) : readLive s 0x010 = s.edit.node0 := rfl

theorem readLive_node1 (s : State) : readLive s 0x011 = s.edit.node1 := rfl

/-! ### The state of a node -/

/-- Where every entry in use has one state, every address in use shows it, whichever entry the lookup finds (R64). -/
theorem nodeState_of_uniform {s : State} {st : NodeState} {i : Fin 16} {n : NodeEntry}
    (uniform : ∀ j m, tget s.nodes j = some m → m.state = st) (used : tget s.nodes i = some n) :
    nodeState n.address s = some st := by
  have held : entryHolds n.address (tget s.nodes i) = true := by simp [used, entryHolds]
  obtain ⟨j, found⟩ := Option.isSome_iff_exists.mp (tfind_isSome.mpr ⟨i, held⟩)
  have holds : entryHolds n.address (tget s.nodes j) = true := tfind_some found
  cases entry : tget s.nodes j with
  | none => simp [entry, entryHolds] at holds
  | some m => simp [nodeState, nodeAt, findNode, found, entry, uniform j m entry]

/-- Every entry in use after SOFT_RESET is AVAILABLE (R62). -/
theorem softResetState_entries_available (s : State) (j : Fin 16) (m : NodeEntry)
    (h : tget (softResetState s).nodes j = some m) : m.state = .available := by
  rw [tget_softResetState_nodes, Option.map_eq_some_iff] at h
  obtain ⟨n, -, rfl⟩ := h
  rfl

/-- After SOFT_RESET a node with an entry may be addressed (R62, R64). -/
theorem nodeState_softResetState {s : State} {i : Fin 16} {n : NodeEntry} (used : tget s.nodes i = some n) :
    nodeState n.address (softResetState s) = some .available := by
  have kept : tget (softResetState s).nodes i = some n.softReset := by simp [used]
  exact nodeState_of_uniform (n := n.softReset) (softResetState_entries_available s) kept

/-- Settles O6: both resets by what they leave in the table, the edit area, the events and the slots. -/
theorem nodeTableResets : Obligations.NodeTableResets := by
  unfold Obligations.NodeTableResets
  constructor
  · intro a b c s
    refine ⟨_, exec_rst a b c s, tget_hardReset_nodes a b c s, ?_, ?_⟩
    · rw [readLive_node0, hardReset_edit]; rfl
    · rw [readLive_node1, hardReset_edit]; rfl
  · intro s w
    refine ⟨_, exec_softReset_open w, ?unused, ?used, ?events, ?edit0, ?edit1, ?slots⟩
    case unused => intro i h; simp [h]
    case used =>
      intro i n h
      have kept : tget (softResetState s).nodes i = some n.softReset := by simp [h]
      have available := nodeState_softResetState h
      exact ⟨n.softReset, kept, rfl, rfl, rfl, rfl, rfl, rfl, rfl, rfl, rfl, available⟩
    case events => exact softResetState_flags s
    case edit0 => simp only [readLive_node0, State.setHost_edit, softResetState_edit]
    case edit1 => simp only [readLive_node1, State.setHost_edit, softResetState_edit]
    case slots => intro k; simp [Slot.free]

end Sys2Proof.Machine

/-! The Hold and Notify Unit at the two resets (R167): both give the unit its reset values and open every hold; SOFT_RESET also turns the Responder off, clears the events and keeps the window settings. -/

namespace Sys2Proof.Machine

/-! ### What the resets leave in the blocks that R167 names -/

@[simp] theorem hardReset_hold (a b c : Bool) (s : State) : (hardReset a b c s).hold = HoldUnit.reset := rfl

@[simp] theorem softResetState_hold (s : State) : (softResetState s).hold = HoldUnit.reset := rfl

@[simp] theorem softResetState_responder (s : State) : (softResetState s).responder = Responder.reset := rfl

@[simp] theorem windowOf_hardReset (a b c : Bool) (s : State) (i : Fin 8) :
    windowOf (hardReset a b c s) i = Window.reset := tget_replicate Window.reset i

@[simp] theorem windowOf_softResetState (s : State) (i : Fin 8) :
    windowOf (softResetState s) i = (windowOf s i).softReset := tget_tmap _ _ i

/-! ### Events and the notify head view -/

/-- Where no flag stands, no event is set (R191). -/
theorem eventSet_of_flags_zero {s : State} (clear : s.events.flags = 0) (e : Event) : eventSet e s = false := by
  unfold eventSet
  rw [clear]
  exact BitVec.getLsbD_zero

theorem readLive_notifyHead (s : State) : readLive s 0x078 = notifyHeadWord s.hold.queue := rfl

/-- The unit's values after both resets, and the notify head view that shows its empty queue (R165, R167). -/
theorem holdUnit_reset_values {s : State} (unit : s.hold = HoldUnit.reset) :
    s.hold.stallTimer = none ∧ s.hold.stallWindow = none ∧ s.hold.reasonHeld = false ∧ s.hold.reasonFull = false ∧
      s.hold.queue = [] ∧ s.hold.queue.length = 0 ∧ s.hold.reservation = false ∧ s.hold.sequence = 0 ∧
      readLive s 0x078 = 0 := by
  rw [readLive_notifyHead, unit]
  exact ⟨rfl, rfl, rfl, rfl, rfl, rfl, rfl, rfl, rfl⟩

/-- Settles O7: both resets by what they leave in the unit and the windows, SOFT_RESET also in the Responder and the events. -/
theorem holdUnitResets : Obligations.HoldUnitResets := by
  unfold Obligations.HoldUnitResets
  constructor
  · intro a b c s
    refine ⟨_, exec_rst a b c s, ?holds, holdUnit_reset_values (hardReset_hold a b c s)⟩
    case holds => intro i; simp [Window.reset]
  · intro s w
    have unit : ((softResetState s).setHost (posted .ok 0 s.host)).hold = HoldUnit.reset := softResetState_hold s
    obtain ⟨timer, stalling, held, full, queue, count, reservation, sequence, head⟩ := holdUnit_reset_values unit
    refine ⟨_, exec_softReset_open w, ?holds, timer, stalling, held, full, queue, count, reservation, sequence, head,
      ?state, ?sbck, ?sbdt, ?events, ?settings⟩
    case holds => intro i; simp [Window.softReset]
    case state => simp [Responder.reset]
    case sbck => simp [Responder.reset]
    case sbdt => simp [Responder.reset]
    case events => exact eventSet_of_flags_zero (softResetState_flags s)
    case settings => intro i; simp [Window.softReset]

end Sys2Proof.Machine

/-! The malformed SPI header (R185): HOST_FORMAT is set and the transaction is ignored; an ignored transaction takes no word, so no write and no command can come until CS# rises. -/

namespace Sys2Proof.Machine

/-! ### Headers and the end of a transaction (R184, R185) -/

theorem headerValid_iff (h : BitVec 16) : headerValid h = true ↔ h.extractLsb' 9 6 = 0 := by
  simp [headerValid]

/-- A header that is not valid sets HOST_FORMAT; what follows it is ignored (R185). -/
theorem takeHeader_malformed {s : State} {h : BitVec 16} (taking : s.host.txn = .header) (bad : h.extractLsb' 9 6 ≠ 0) :
    takeHeader h s = setEvent .hostFormat (s.setHost { s.host with txn := .ignoring }) := by
  have invalid : ¬ headerValid h = true := fun valid => bad ((headerValid_iff h).mp valid)
  simp [takeHeader, taking, invalid]

/-- The 16th header bit is taken in the header only (R184). -/
theorem takeHeader_outside {s : State} (h : BitVec 16) (other : s.host.txn ≠ .header) : takeHeader h s = s := by
  simp [takeHeader, other]

/-- CS# rises in an open transaction: nothing but the transaction ends (R184, R185). -/
theorem closeTransaction_open {s : State} (opened : s.host.txn ≠ .closed) :
    closeTransaction s = s.setHost { s.host with txn := .closed, frozen := [], miso := none, shifting := false } := by
  simp [closeTransaction, opened]

/-! ### No word is taken outside a write transaction (R186; log 13) -/

/-- A word write outside an open write transaction cannot come (log 1, 13). -/
theorem wordWrite_closed {s : State} (a : BitVec 9) (notWriting : s.host.txn ≠ .writing) (effect : State → State) :
    wordWrite a effect s = s := by
  simp [wordWrite, canWrite, notWriting]

/-- BAD_COMMAND outside an open write transaction, with a listed code or another (R189; log 25). -/
theorem exec_badCommand_closed {s : State} (code : BitVec 8) (notWriting : s.host.txn ≠ .writing) :
    exec (.badCommand code) s = .next s := by
  have unfolded : exec (.badCommand code) s =
      if listedCodes.contains code then .next s else .next (hostCommand badCommandReply s) := rfl
  rw [unfolded, hostCommand_closed notWriting, ite_self]

/-! ### MISO while a transaction is ignored (R185) -/

theorem readTurn_closed {s : State} (notReading : s.host.txn ≠ .reading) : readTurn s = false := by
  simp [readTurn, notReading]

theorem misoDrive_ignoring {s : State} (ignored : s.host.txn = .ignoring) : misoDrive s = .low := by
  simp [misoDrive, ignored]

/-- Settles O9: the header's event, what an ignored transaction leaves alone, and the end of a header cut short. -/
theorem malformedHeader : Obligations.MalformedHeader := by
  unfold Obligations.MalformedHeader
  refine ⟨?malformed, ?ignored, ?dropped⟩
  case malformed =>
    intro s h taking bad
    exact congrArg Host.Outcome.next (takeHeader_malformed taking bad)
  case ignored =>
    intro s ignored
    have notWriting : s.host.txn ≠ .writing := by simp [ignored]
    have command (body : State → Reply) : Host.Outcome.next (hostCommand body s) = (.next s : Answer) :=
      congrArg Host.Outcome.next (hostCommand_closed notWriting body)
    have write (a : BitVec 9) (effect : State → State) : Host.Outcome.next (wordWrite a effect s) = (.next s : Answer) :=
      congrArg Host.Outcome.next (wordWrite_closed a notWriting effect)
    have header (h : BitVec 16) : Host.Outcome.next (takeHeader h s) = (.next s : Answer) :=
      congrArg Host.Outcome.next (takeHeader_outside h (by simp [ignored]))
    refine ⟨fun a _ => write a _, ?commands, ?withArgument, fun code => exec_badCommand_closed code notWriting, ?words,
      readTurn_closed (by simp [ignored]), misoDrive_ignoring ignored, ?ends⟩
    case commands =>
      simp only [List.forall_mem_cons]
      exact ⟨command _, command _, command _, command _, command _, command _, command _, command _, List.forall_mem_nil _⟩
    case withArgument =>
      intro arg
      simp only [List.forall_mem_cons]
      exact ⟨command _, command _, command _, command _, command _, command _, command _, command _, header arg,
        List.forall_mem_nil _⟩
    case words =>
      intro w
      simp only [List.forall_mem_cons]
      exact ⟨write _ _, write _ _, write _ _, write _ _, write _ _, List.forall_mem_nil _⟩
    case ends =>
      exact ⟨_, congrArg Host.Outcome.next (closeTransaction_open (by simp [ignored])), rfl, rfl, rfl⟩
  case dropped =>
    intro s taking
    exact congrArg Host.Outcome.next (closeTransaction_open (by simp [taking]))

end Sys2Proof.Machine

/-! The notify head record word (R200): where each field of the oldest record stands, and that a write leaves the record alone. -/

namespace Sys2Proof.Machine

/-! ### The fields of the word, the lowest first (R200) -/

section
variable (r : NotifyRecord) (rest : List NotifyRecord)

theorem notifyHeadWord_sequence : (notifyHeadWord (r :: rest)).extractLsb' 0 8 = r.sequence :=
  BitVec.extractLsb'_append_eq_right

theorem notifyHeadWord_source : (notifyHeadWord (r :: rest)).extractLsb' 8 8 = r.source := by
  calc (notifyHeadWord (r :: rest)).extractLsb' 8 8
    _ = (BitVec.ofNat 3 r.window.val ++ r.offset ++ BitVec.ofNat 5 (r.length - 1) ++ r.source).extractLsb' 0 8 :=
      BitVec.extractLsb'_append_eq_of_le (by decide)
    _ = r.source := BitVec.extractLsb'_append_eq_right

/-- Above the source the word holds the window, the offset and the length less one. -/
theorem notifyHeadWord_above_source (n k : Nat) :
    (notifyHeadWord (r :: rest)).extractLsb' (16 + n) k =
      (BitVec.ofNat 3 r.window.val ++ r.offset ++ BitVec.ofNat 5 (r.length - 1)).extractLsb' n k := by
  unfold notifyHeadWord
  rw [BitVec.extractLsb'_append_eq_of_le (by omega), BitVec.extractLsb'_append_eq_of_le (by omega),
    show 16 + n - 8 - 8 = n by omega]

theorem notifyHeadWord_length : (notifyHeadWord (r :: rest)).extractLsb' 16 5 = BitVec.ofNat 5 (r.length - 1) :=
  (notifyHeadWord_above_source r rest 0 5).trans BitVec.extractLsb'_append_eq_right

theorem notifyHeadWord_offset : (notifyHeadWord (r :: rest)).extractLsb' 21 8 = r.offset := by
  calc (notifyHeadWord (r :: rest)).extractLsb' 21 8
    _ = (BitVec.ofNat 3 r.window.val ++ r.offset ++ BitVec.ofNat 5 (r.length - 1)).extractLsb' 5 8 :=
      notifyHeadWord_above_source r rest 5 8
    _ = (BitVec.ofNat 3 r.window.val ++ r.offset).extractLsb' 0 8 := BitVec.extractLsb'_append_eq_of_le (by decide)
    _ = r.offset := BitVec.extractLsb'_append_eq_right

theorem notifyHeadWord_window : (notifyHeadWord (r :: rest)).extractLsb' 29 3 = BitVec.ofNat 3 r.window.val := by
  calc (notifyHeadWord (r :: rest)).extractLsb' 29 3
    _ = (BitVec.ofNat 3 r.window.val ++ r.offset ++ BitVec.ofNat 5 (r.length - 1)).extractLsb' 13 3 :=
      notifyHeadWord_above_source r rest 13 3
    _ = (BitVec.ofNat 3 r.window.val ++ r.offset).extractLsb' 8 3 := BitVec.extractLsb'_append_eq_of_le (by decide)
    _ = BitVec.ofNat 3 r.window.val := BitVec.extractLsb'_append_eq_left

end

/-! ### A write at a word that the host cannot change (R188) -/

/-- Where a whole write has no effect at its address, only the pointer rises (R186, R188). -/
theorem exec_registerWrite_readOnly {a : BitVec 9} {w : Word} {s : State} (kept : wordEffect a.toNat w s = s) :
    exec (.registerWrite a w) s = .next (if canWrite a s then { s with host := wordTaken s.host } else s) := by
  calc exec (.registerWrite a w) s
    _ = .next (if canWrite a s then pointerUp (wordEffect a.toNat w s) else s) := rfl
    _ = .next (if canWrite a s then pointerUp s else s) := by rw [kept]
    _ = .next (if canWrite a s then { s with host := wordTaken s.host } else s) := rfl

theorem wordEffect_notifyHead (w : Word) (s : State) : wordEffect 0x078 w s = s := rfl

/-- Settles O15: the word of the head record field by field, with the bounds under which the length and the window fit theirs. -/
theorem notifyHeadRecordWord : Obligations.NotifyHeadRecordWord := by
  unfold Obligations.NotifyHeadRecordWord
  constructor
  · intro s empty
    rw [readLive_notifyHead, empty]
    rfl
  · intro s r rest queue low high
    have lengthFits : r.length - 1 < 2 ^ 5 := by omega
    have windowFits : r.window.val < 2 ^ 3 := r.window.isLt
    rw [readLive_notifyHead, queue]
    refine ⟨notifyHeadWord_sequence r rest, notifyHeadWord_source r rest, ?length, notifyHeadWord_offset r rest, ?window,
      fun w => exec_registerWrite_readOnly (wordEffect_notifyHead w s)⟩
    case length => rw [notifyHeadWord_length, BitVec.toNat_ofNat, Nat.mod_eq_of_lt lengthFits]
    case window => rw [notifyHeadWord_window, BitVec.toNat_ofNat, Nat.mod_eq_of_lt windowFits]

end Sys2Proof.Machine

/-! What a step of the part is made of: a step is a chain of moves, one for each way in which what the invariants read can change. An invariant that every move keeps is kept by every step. -/

namespace Sys2Proof.Machine

/-! ### The moves -/

/-- Everything that the invariants read is as it was: the Host Port, the lines, the counts and the timers may have changed. -/
structure SameCore (s t : State) : Prop where
  pending : t.pending = s.pending
  store : t.store = s.store
  exp : t.sched.exp = s.sched.exp
  std : t.sched.std = s.sched.std
  bkg : t.sched.bkg = s.sched.bkg
  nodes : t.nodes = s.nodes
  engine : t.engine = s.engine
  completions : t.completions = s.completions
  windows : t.windows = s.windows
  responder : t.responder = s.responder
  page : t.page = s.page
  notify : t.hold.queue = s.hold.queue
  reservation : t.hold.reservation = s.hold.reservation
  stallWindow : t.hold.stallWindow = s.hold.stallWindow
  portState : t.port.state = s.port.state
  recovery : t.port.recovery = s.port.recovery
  portSbck : t.port.driveSbck = s.port.driveSbck
  portSbdt : t.port.driveSbdt = s.port.driveSbdt

/-- The request side is as it was. -/
structure SameRequests (s t : State) : Prop where
  store : t.store = s.store
  exp : t.sched.exp = s.sched.exp
  std : t.sched.std = s.sched.std
  bkg : t.sched.bkg = s.sched.bkg
  nodes : t.nodes = s.nodes
  engine : t.engine = s.engine
  completions : t.completions = s.completions

/-- The remote side is as it was. -/
structure SameRemote (s t : State) : Prop where
  windows : t.windows = s.windows
  responder : t.responder = s.responder
  page : t.page = s.page
  notify : t.hold.queue = s.hold.queue
  reservation : t.hold.reservation = s.hold.reservation
  stallWindow : t.hold.stallWindow = s.hold.stallWindow

/-- An engine phase that only a STOPPING engine has (R92, R97). -/
def ClockPhase.ofStop (p : ClockPhase) : Prop := p = .stopWait ∨ p = .timeoutWait ∨ p = .timeoutHigh

/-- The engine goes on with the slot and frame it has: an idle engine stays as it is, and none becomes idle. -/
structure EngineStep (e e' : Engine) : Prop where
  held : e'.held = e.held
  frameIndex : e'.frameIndex = e.frameIndex
  inFrame : e.st.inFrame = true → e'.st.inFrame = true ∨ e.phase = .stopWait
  stays : e = e.idled → e' = e
  leaves : e'.st = .idle → e.st = .idle
  ofStop : e'.phase.ofStop → e'.st = .stopping ∨ (e.phase.ofStop ∧ e'.st = e.st) ∨
    (e.phase = .condFirst ∧ e.st ≠ .linking ∧ e'.st = e.st)
  ofCondition : e'.phase = .condFirst → e'.st = .linking ∨ e'.st = .stopping ∨ (e.phase = .condFirst ∧ e'.st = e.st)

/-- A node entry keeps its use, its address and its refs; its state stays or becomes AVAILABLE. -/
def EntryKept : Option NodeEntry → Option NodeEntry → Prop
  | none, none => True
  | some n, some m => m.address = n.address ∧ m.refs = n.refs ∧ (m.state = n.state ∨ m.state = .available)
  | _, _ => False

/-- A slot keeps its state, tag, queue and chain. -/
structure SlotKept (x y : Slot) : Prop where
  state : y.state = x.state
  tag : y.tag = x.tag
  queue : y.queue = x.queue
  chain : y.chain = x.chain

/-- One change of the request side. -/
inductive RequestMove (s : State) : State → Prop
  | choice : RequestMove s (choose s)
  | place (q : QueueName) (c : List Frame) (k : Fin 32) (passed : submitCheck s = .passed q c k) :
      RequestMove s (placeRequest k q c s)
  | completeWaiting (k : Fin 32) (o : RequestOutcome) (waiting : (slotOf s k).state = .waiting) :
      RequestMove s (complete k o false s)
  | slot (k : Fin 32) (x : Slot) (kept : SlotKept (slotOf s k) x) : RequestMove s (setSlot k x s)
  | pop (r : CompletionRecord) (rest : List CompletionRecord) (head : s.completions = r :: rest) :
      RequestMove s (setSlot r.slot Slot.free (s.setCompletions rest))
  | entries (v : Vector (Option NodeEntry) 16) (kept : ∀ i, EntryKept (tget s.nodes i) (tget v i)) :
      RequestMove s (s.setNodes v)
  | createEntry (i : Fin 16) (n : NodeEntry) (unused : tget s.nodes i = none) (fresh : findNode n.address s = none)
      (valid : n.address ≠ 0 ∧ n.address ≠ 255) (refs : n.refs = 0) (state : n.state = .available) :
      RequestMove s (s.setNodes (tset s.nodes i (some n)))
  | removeEntry (i : Fin 16) (n : NodeEntry) (used : tget s.nodes i = some n) (refs : n.refs = 0) :
      RequestMove s (s.setNodes (tset s.nodes i none))
  | engine (e : Engine) (goesOn : EngineStep s.engine e) : RequestMove s (s.setEngine e)

/-- The engine hands a result on or enters IDLE; a stop of the port may end there. -/
inductive EngineMove (s : State) : State → Prop
  | report (r : FrameResult) (busy : s.engine ≠ s.engine.idled) (atHigh : r = .accepted → s.engine.phase = .high) :
      EngineMove s (reportResult r s)
  | toIdle (outside : s.engine.st.inFrame = false) : EngineMove s (engineToIdle s)

/-- The Responder's counts go on or end; it starts none and takes hold of no line. -/
structure ResponderCounts (r r' : Responder) : Prop where
  st : r'.st = r.st
  pos : r'.pos = r.pos
  window : r'.window = r.window
  code : r'.code = r.code
  sbck : r'.driveSbck = r.driveSbck ∨ r'.driveSbck = false
  sbdt : r'.driveSbdt = r.driveSbdt
  delay : r.delay = none → r'.delay = none
  release : r.release = none → r'.release = none

/-- SBDT takes the level that the Responder sends, with the commit of a verified WRITE (R132, R142). -/
def levelSet (s : State) : State :=
  (commitNow s).setResponder
    { (commitNow s).responder with delay := none, want := false, commits := false, driveSbdt := s.responder.want }

/-- One change of the remote side. -/
inductive RemoteMove (s : State) : State → Prop
  | start : RemoteMove s (responderStart s)
  | close : RemoteMove s (responderClose s)
  | rise (b : Bool) : RemoteMove s (responderRise b s)
  | fall : RemoteMove s (responderFall s)
  | level (counting : s.responder.delay ≠ none) : RemoteMove s (levelSet s)
  | counts (r : Responder) (goesOn : ResponderCounts s.responder r) : RemoteMove s (s.setResponder r)
  | stallEnds (due : stallDue s = true) : RemoteMove s (endStall .busy s)
  | writeWindow (i : Fin 8) (disabled : (windowOf s i).enabled = false) :
      RemoteMove s (setWindow i (editWindow s.edit (windowOf s i)) s)
  | enableWindow (i : Fin 8) (valid : windowSettingsValid (windowOf s i) = true)
      (free : enabledWith (windowOf s i).node s = none) :
      RemoteMove s (setWindow i { windowOf s i with enabled := true } s)
  | disableWindow (i : Fin 8) (outside : (windowOf s i).inFrame = false) :
      RemoteMove s (setWindow i { windowOf s i with enabled := false, hold := .open } s)
  | hold (i : Fin 8) (h : HoldState)
      (legal : (h = .pending → (windowOf s i).inFrame = true) ∧ (h = .held → (windowOf s i).inFrame = false)) :
      RemoteMove s (changeHold i h s)
  | popNotify (r : NotifyRecord) (rest : List NotifyRecord) (head : s.hold.queue = r :: rest) :
      RemoteMove s (reevaluateStall (s.setHold { s.hold with queue := rest }))
  | writePage (n : Nat) (w : Word) : RemoteMove s (s.setPage (s.page.writeWord n w))

/-- A change of the port state, or a step of the recovery sequence. -/
inductive PortMove (s : State) : State → Prop
  | enable (disabled : s.port.state = .disabled) : PortMove s (portRunning s)
  | disable (running : s.port.state = .running) (idle : s.engine.st = .idle) :
      PortMove s (responderOff (monitorDisabled (setPortState .disabled s)))
  | stop (running : s.port.state = .running) (busy : s.engine.st ≠ .idle) :
      PortMove s (responderOff (setPortState .stopping s))
  | clearFault (fault : s.port.state = .fault) : PortMove s (setPortState .disabled s)
  | recover (p : Port) (fault : s.port.state = .fault) (begun : p.state = .recovering ∧ p.recovery ≠ .none) :
      PortMove s (s.setPort p)
  | sequence (p : Port) (running : s.port.recovery ≠ .none) (goesOn : p.state = s.port.state ∧ p.recovery ≠ .none) :
      PortMove s (s.setPort p)
  | fail (p : Port) (fault : s.port.state = .fault ∨ s.port.recovery ≠ .none)
      (ended : p.state = .fault ∧ p.recovery = .none ∧ p.driveSbck = false ∧ p.driveSbdt = false) :
      PortMove s (s.setPort p)
  | succeed (running : s.port.recovery ≠ .none) : PortMove s (portRunning (s.setPort s.port.sequenceOver))
  | stuck (running : s.port.state = .running) : PortMove s (engineStuck (responderOff (setPortState .fault s)))

/-- One move of the part. -/
inductive Move (s t : State) : Prop
  | same (core : SameCore s t)
  | request (m : RequestMove s t)
  | engine (m : EngineMove s t)
  | remote (m : RemoteMove s t)
  | port (m : PortMove s t)
  | softReset (eq : t = softResetState s)
  | hardReset (a b c : Bool) (eq : t = hardReset a b c s)

/-- A path of steps of `r`: the reflexive and transitive closure, which the core library does not have. -/
inductive StepPath {σ : Type} (r : σ → σ → Prop) (s : σ) : σ → Prop
  | refl : StepPath r s s
  | tail {t u : σ} (path : StepPath r s t) (last : r t u) : StepPath r s u

section
variable {σ : Type} {r : σ → σ → Prop} {s t u : σ}

theorem StepPath.single (step : r s t) : StepPath r s t := .tail .refl step

theorem StepPath.trans (first : StepPath r s t) (then_ : StepPath r t u) : StepPath r s u := by
  induction then_ with
  | refl => exact first
  | tail _ last ih => exact .tail ih last

theorem StepPath.head (step : r s t) (path : StepPath r t u) : StepPath r s u := (StepPath.single step).trans path

end

/-- A chain of moves. -/
abbrev Moves : State → State → Prop := StepPath Move

/-- What every move keeps, every chain of moves keeps. -/
theorem Moves.keep {I : State → Prop} (kept : ∀ {s t}, Move s t → I s → I t) {s t : State} (m : Moves s t) (h : I s) :
    I t := by
  induction m with
  | refl => exact h
  | tail _ last ih => exact kept last ih

theorem SameCore.moves {s t : State} (h : SameCore s t) : Moves s t := .single (.same h)
theorem RequestMove.moves {s t : State} (m : RequestMove s t) : Moves s t := .single (.request m)
theorem EngineMove.moves {s t : State} (m : EngineMove s t) : Moves s t := .single (.engine m)
theorem RemoteMove.moves {s t : State} (m : RemoteMove s t) : Moves s t := .single (.remote m)
theorem PortMove.moves {s t : State} (m : PortMove s t) : Moves s t := .single (.port m)

theorem choose_moves (s : State) : Moves s (choose s) := RequestMove.choice.moves

/-! ### What leaves the core alone -/

section
variable (s : State)

theorem SameCore.refl : SameCore s s := by constructor <;> rfl
theorem setHost_core (h : HostPort) : SameCore s (s.setHost h) := by constructor <;> rfl
theorem setEvents_core (e : EventUnit) : SameCore s (s.setEvents e) := by constructor <;> rfl
theorem setEvent_core (e : Event) : SameCore s (setEvent e s) := setEvents_core s _
theorem setEdit_core (e : EditAreas) : SameCore s (s.setEdit e) := by constructor <;> rfl
theorem setCfg_core (c : Cfg) : SameCore s (s.setCfg c) := by constructor <;> rfl
theorem setLine_core (l : Line) : SameCore s (s.setLine l) := by constructor <;> rfl
theorem setTimer_core (k : Fin 32) (t : DeadlineTimer) : SameCore s (setTimer k t s) := by constructor <;> rfl

theorem SameCore.trans {s t u : State} (a : SameCore s t) (b : SameCore t u) : SameCore s u :=
  ⟨b.pending.trans a.pending, b.store.trans a.store, b.exp.trans a.exp, b.std.trans a.std, b.bkg.trans a.bkg, b.nodes.trans a.nodes,
    b.engine.trans a.engine, b.completions.trans a.completions, b.windows.trans a.windows,
    b.responder.trans a.responder, b.page.trans a.page, b.notify.trans a.notify, b.reservation.trans a.reservation,
    b.stallWindow.trans a.stallWindow, b.portState.trans a.portState, b.recovery.trans a.recovery,
    b.portSbck.trans a.portSbck, b.portSbdt.trans a.portSbdt⟩

end

/-! ### The engine's own steps -/

/-- An engine with a phase running is not at its IDLE values. -/
theorem Engine.ne_idled_of_phase {e : Engine} (h : e.phase ≠ .none) : e ≠ e.idled := by
  intro idle
  rw [idle] at h
  exact h rfl

theorem Engine.ne_idled_of_st {e : Engine} (h : e.st ≠ .idle) : e ≠ e.idled := by
  intro idle
  rw [idle] at h
  exact h rfl

/-- An engine that is not at its IDLE values goes on in its state, into a phase of any state. -/
theorem EngineStep.of_phase {e e' : Engine} (busy : e ≠ e.idled) (held : e'.held = e.held)
    (frame : e'.frameIndex = e.frameIndex) (st : e'.st = e.st) (ofStop : ¬ e'.phase.ofStop)
    (ofCondition : e'.phase ≠ .condFirst) : EngineStep e e' where
  held := held
  frameIndex := frame
  inFrame h := .inl (by rw [st]; exact h)
  stays idle := absurd idle busy
  leaves h := st ▸ h
  ofStop h := absurd h ofStop
  ofCondition h := absurd h ofCondition

/-- The engine's phase and state stay. -/
theorem EngineStep.of_same {e e' : Engine} (stays : e = e.idled → e' = e) (held : e'.held = e.held)
    (frame : e'.frameIndex = e.frameIndex) (st : e'.st = e.st) (phase : e'.phase = e.phase) : EngineStep e e' where
  held := held
  frameIndex := frame
  inFrame h := .inl (by rw [st]; exact h)
  stays := stays
  leaves h := st ▸ h
  ofStop h := .inr (.inl ⟨phase ▸ h, st⟩)
  ofCondition h := .inr (.inr ⟨phase ▸ h, st⟩)

/-- The engine goes from one in-frame state to another in the same phase. -/
theorem EngineStep.of_state {e e' : Engine} (outOf : e.st.inFrame = true) (into : e'.st.inFrame = true)
    (held : e'.held = e.held) (frame : e'.frameIndex = e.frameIndex) (ofStop : ¬ e'.phase.ofStop)
    (ofCondition : e'.phase ≠ .condFirst) : EngineStep e e' where
  held := held
  frameIndex := frame
  inFrame _ := .inl into
  stays idle := by
    have st : e.st = .idle := by rw [idle]; rfl
    simp [st, EngineState.inFrame] at outOf
  leaves h := by simp [h, EngineState.inFrame] at into
  ofStop h := absurd h ofStop
  ofCondition h := absurd h ofCondition

/-! ### A frame result (R93) -/

/-- The result at the slot and at the Node Table, before the link decision (R93). -/
def resultTaken (r : FrameResult) (k : Fin 32) (f : Frame) (s : State) : State :=
  nodeResult r f.dest (if r = .accepted then acceptFrame k s.engine.frameIndex f s else s)

/-- The result suspends its frame's node (R69); the slot does not matter. -/
theorem resultSuspends_acceptFrame (r : FrameResult) (a : Byte) (k : Fin 32) (f : Frame) (s : State) :
    resultSuspends r a (if r = .accepted then acceptFrame k s.engine.frameIndex f s else s) = resultSuspends r a s := by
  split <;> rfl

/-- An engine that runs no frame hands nothing on (log 24). -/
theorem reportResult_no_frame {r : FrameResult} {s : State} (none : ∀ k f, ¬ Runs s k f) :
    reportResult r s = engineAfter r s := by
  unfold reportResult
  split
  · rfl
  · split
    · rfl
    · rename_i k held _ f frame
      exact absurd ⟨held, frame⟩ (none k f)

/-- The result of the frame that the engine runs: a Restart follows, or the attempt ends (R93, R94). -/
theorem reportResult_frame_run {r : FrameResult} {s : State} {k : Fin 32} {f : Frame} (runs : Runs s k f) :
    reportResult r s =
      if r = .accepted ∧ restartWanted (slotOf (resultTaken r k f s) k) s.engine.frameIndex (resultTaken r k f s) = true
      then linkNext k (resultTaken r k f s)
      else engineAfter r (endAttempt k r f.dest (resultSuspends r f.dest s) (resultTaken r k f s)) := by
  obtain ⟨held, frame⟩ := runs
  unfold reportResult
  simp only [held, frame, resultSuspends_acceptFrame]
  rfl

/-- Whatever the engine runs, what it is after a result that does not send it to IDLE at once (R93). -/
theorem reportResult_engine_busy {r : FrameResult} (h : r ≠ .arbLost) (h' : r ≠ .busStuck) (s : State) :
    (reportResult r s).engine.st ≠ .idle := by
  have after (t : State) : (engineAfter r t).engine.st ≠ .idle := by
    cases r with
    | arbLost => exact absurd rfl h
    | busStuck => exact absurd rfl h'
    | _ => simp [engineAfter]
  by_cases run : ∃ k f, Runs s k f
  · obtain ⟨k, f, runs⟩ := run
    rw [reportResult_frame_run runs]
    split
    · simp [linkNext]
    · exact after _
  · rw [reportResult_no_frame fun k f runs => run ⟨k, f, runs⟩]
    exact after s

end Sys2Proof.Machine

/-! A step is a chain of moves: each event of the part taken apart into the moves of its blocks, in their order. -/

namespace Sys2Proof.Machine

/-! ### The engine -/

theorem engine_moves {s : State} {e : Engine} (goesOn : EngineStep s.engine e) : Moves s (s.setEngine e) :=
  (RequestMove.engine e goesOn).moves

theorem slot_moves {s : State} {k : Fin 32} {x : Slot} (kept : SlotKept (slotOf s k) x) : Moves s (setSlot k x s) :=
  (RequestMove.slot k x kept).moves

theorem counts_moves {s : State} {r : Responder} (goesOn : ResponderCounts s.responder r) : Moves s (s.setResponder r) :=
  (RemoteMove.counts r goesOn).moves

theorem conditionHigh_moves {s : State} (phase : s.engine.phase = .waiting)
    (st : s.engine.st = .stopping ∨ s.engine.st = .linking) : Moves s (conditionHigh s) := by
  refine engine_moves ⟨rfl, rfl, fun h => .inl h, ?stays, id, ?ofStop, ?ofCondition⟩
  case stays => exact fun idle => absurd idle (Engine.ne_idled_of_phase (by simp [phase]))
  case ofStop => simp [ClockPhase.ofStop]
  case ofCondition => exact fun _ => st.elim (fun h => .inr (.inl h)) .inl

theorem report_moves {r : FrameResult} {s : State} (busy : s.engine.phase ≠ .none) (h : r ≠ .accepted) :
    Moves s (reportResult r s) :=
  (EngineMove.report r (Engine.ne_idled_of_phase busy) (fun e => absurd e h)).moves

/-- The engine in one of the in-frame states takes its record to another. -/
theorem engineState_moves {s : State} {e : Engine} (outOf : s.engine.st.inFrame = true) (into : e.st.inFrame = true)
    (held : e.held = s.engine.held) (frame : e.frameIndex = s.engine.frameIndex) (phase : e.phase = .high) :
    Moves s (s.setEngine e) :=
  (RequestMove.engine e (.of_state outOf into held frame (by simp [ClockPhase.ofStop, phase]) (by simp [phase]))).moves

theorem arbitrationWon_moves {s : State} (st : s.engine.st = .arbitrating) (phase : s.engine.phase = .high) :
    Moves s (arbitrationWon s) := by
  have won := engineState_moves (s := s) (e := { s.engine with st := .header, arb := .won }) (by simp [st, EngineState.inFrame])
    rfl rfl rfl phase
  unfold arbitrationWon
  dsimp only
  split
  · exact won
  · refine won.trans (slot_moves ?_)
    exact ⟨rfl, rfl, rfl, rfl⟩

theorem claimAtEngine_moves {s : State} (c : ClaimCode) (st : s.engine.st = .claim) (phase : s.engine.phase = .high) :
    Moves s (claimAtEngine c s) := by
  have inFrame : s.engine.st.inFrame = true := by simp [st, EngineState.inFrame]
  unfold claimAtEngine
  dsimp only
  split
  · exact engineState_moves inFrame rfl rfl rfl phase
  · exact engineState_moves inFrame inFrame rfl rfl phase

theorem afterBit_moves (b : Bool) {s : State} (phase : s.engine.phase = .high) : Moves s (afterBit b s) := by
  have inFrame {st : EngineState} (h : s.engine.st = st) (h' : st.inFrame = true) : s.engine.st.inFrame = true := by
    rw [h, h']
  unfold afterBit
  dsimp only
  split
  case h_1 st =>
    split
    · exact arbitrationWon_moves st phase
    · exact .refl
  case h_2 st =>
    split
    · exact engineState_moves (inFrame st rfl) rfl rfl rfl phase
    · exact .refl
  case h_3 st =>
    split
    · exact engineState_moves (inFrame st rfl) (inFrame st rfl) rfl rfl phase
    · split
      · exact claimAtEngine_moves _ st phase
      · exact .refl
  case h_4 st =>
    split
    · exact engineState_moves (inFrame st rfl) rfl rfl rfl phase
    · exact .refl
  case h_5 st =>
    split
    · exact engineState_moves (inFrame st rfl) rfl rfl rfl phase
    · exact .refl
  case h_6 st => exact engineState_moves (inFrame st rfl) (inFrame st rfl) rfl rfl phase
  case h_7 => exact .refl

theorem engineTakeBit_moves (b : Bool) {s : State} (phase : s.engine.phase = .waiting) : Moves s (engineTakeBit b s) := by
  have busy : s.engine.phase ≠ .none := by simp [phase]
  unfold engineTakeBit
  split
  · exact report_moves busy (by decide)
  split
  · exact report_moves busy (by decide)
  · have taken : Moves s (s.setEngine (takenBit s b)) :=
      engine_moves (.of_phase (Engine.ne_idled_of_phase busy) rfl rfl rfl (by simp [takenBit, ClockPhase.ofStop])
        (by simp [takenBit]))
    exact taken.trans (afterBit_moves b rfl)

theorem engineRise_moves (b : Bool) (s : State) : Moves s (engineRise b s) := by
  unfold engineRise
  dsimp only
  split
  case h_1 phase =>
    have waitOver : Moves s (s.setEngine { s.engine with waitTimer := none }) :=
      engine_moves (.of_same (fun idle => by rw [idle]; rfl) rfl rfl rfl rfl)
    split
    · rename_i st
      exact waitOver.trans (conditionHigh_moves phase (.inl st))
    · rename_i st
      split
      · exact waitOver.trans (conditionHigh_moves phase (.inr st))
      · exact waitOver.trans (report_moves (by simp [phase]) (by decide))
    · exact waitOver.trans (engineTakeBit_moves b phase)
  case h_2 phase =>
    refine engine_moves ⟨rfl, rfl, fun h => .inl h, ?stays, id, ?ofStop, ?ofCondition⟩
    case stays => exact fun idle => absurd idle (Engine.ne_idled_of_phase (by simp [phase]))
    case ofStop => exact fun _ => .inr (.inl ⟨.inr (.inl phase), rfl⟩)
    case ofCondition => simp
  case h_3 => exact .refl

/-- A frame's end reports no result that sends the engine to IDLE at once (R90). -/
theorem resultAtEnd_cases {s : State} {r : FrameResult} (h : resultAtEnd s = some r) : r ≠ .arbLost ∧ r ≠ .busStuck := by
  unfold resultAtEnd at h
  dsimp only at h
  split at h
  · split at h
    · split at h <;> cases h <;> decide
    · cases h
  · split at h
    · split at h <;> split at h <;> cases h <;> decide
    · cases h
  · cases h

theorem bitEnds_moves {s : State} (phase : s.engine.phase = .high) : Moves s (bitEnds s) := by
  unfold bitEnds
  split
  · exact .refl
  · have boundary : Moves s (s.setEngine { s.engine with pos := .boundary }) :=
      engine_moves (.of_phase (Engine.ne_idled_of_phase (by simp [phase])) rfl rfl rfl
        (by simp [ClockPhase.ofStop, phase]) (by simp [phase]))
    refine boundary.trans (EngineMove.report _ ?busy ?atHigh).moves
    case busy => exact Engine.ne_idled_of_phase (by simp [phase])
    case atHigh => exact fun _ => phase

theorem bitEnds_busy {s : State} (phase : s.engine.phase = .high) : (bitEnds s).engine ≠ (bitEnds s).engine.idled := by
  unfold bitEnds
  split
  · exact Engine.ne_idled_of_phase (by simp [phase])
  · rename_i r result
    obtain ⟨notLost, notStuck⟩ := resultAtEnd_cases result
    exact Engine.ne_idled_of_st (reportResult_engine_busy notLost notStuck _)

theorem pullClock_moves {s : State} (busy : s.engine ≠ s.engine.idled) : Moves s (pullClock s) :=
  engine_moves (.of_phase busy rfl rfl rfl (by simp [ClockPhase.ofStop]) (by simp))

theorem leaveBoundary_moves {s : State} (busy : s.engine ≠ s.engine.idled) : Moves s (leaveBoundary s) := by
  unfold leaveBoundary
  split
  · exact engine_moves (.of_same (fun idle => absurd idle busy) rfl rfl rfl rfl)
  · exact .refl

theorem leaveBoundary_phase (s : State) : (leaveBoundary s).engine.phase = s.engine.phase := by
  unfold leaveBoundary
  split <;> rfl

theorem engineFall_moves (s : State) : Moves s (engineFall s) := by
  have leaves (busy : s.engine.phase ≠ .none) : Moves s (pullClock (leaveBoundary s)) :=
    (leaveBoundary_moves (Engine.ne_idled_of_phase busy)).trans
      (pullClock_moves (Engine.ne_idled_of_phase (by rw [leaveBoundary_phase]; exact busy)))
  unfold engineFall
  split
  case h_1 phase => exact (bitEnds_moves phase).trans (pullClock_moves (bitEnds_busy phase))
  case h_2 phase =>
    have done : Moves s (restartDone s) := by
      refine engine_moves ⟨rfl, rfl, fun _ => .inl rfl, ?stays, ?leaves, ?ofStop, ?ofCondition⟩
      case stays => exact fun idle => absurd idle (Engine.ne_idled_of_phase (by simp [phase]))
      case leaves => simp
      case ofStop => simp [ClockPhase.ofStop, phase]
      case ofCondition => simp [phase]
    exact done.trans (pullClock_moves (Engine.ne_idled_of_st (by simp [restartDone])))
  case h_3 phase => exact leaves (by simp [phase])
  case h_4 phase => exact leaves (by simp [phase])
  case h_5 phase => exact leaves (by simp [phase])
  case h_6 phase => exact pullClock_moves (Engine.ne_idled_of_phase (by simp [phase]))
  case h_7 => exact .refl

theorem engineCondition_moves (s : State) : Moves s (engineCondition s) := by
  unfold engineCondition
  split
  · rename_i faults
    refine report_moves ?_ (by decide)
    intro phase
    simp [conditionFaults, phase] at faults
  · exact .refl

theorem engineStopSeen_moves (s : State) : Moves s (engineStopSeen s) := by
  unfold engineStopSeen
  split
  · rename_i stopDone
    simp only [engineStopDone, Bool.and_eq_true, beq_iff_eq] at stopDone
    exact (EngineMove.toIdle (by simp [stopDone.1, EngineState.inFrame])).moves
  · exact engineCondition_moves s

theorem engineStuck_moves (s : State) : Moves s (engineStuck s) := by
  unfold engineStuck
  split
  · rename_i inFrame
    refine (EngineMove.report _ (Engine.ne_idled_of_st ?_) (by simp)).moves
    intro idle
    simp [idle, EngineState.inFrame] at inFrame
  · rename_i outside
    split
    · exact .refl
    · exact (EngineMove.toIdle (by simpa using outside)).moves

/-! ### The lines, with the engine and the Responder -/

theorem clockFalls_moves (s : State) : Moves s (clockFalls s) :=
  ((setLine_core s _).moves.trans (engineFall_moves _)).trans RemoteMove.fall.moves

theorem startSeen_moves (s : State) : Moves s (startSeen s) :=
  ((setLine_core s _).moves.trans (engineCondition_moves _)).trans RemoteMove.start.moves

theorem sbdtLow_moves (s : State) : Moves s (sbdtLow s) := (setLine_core s _).moves
theorem sbdtHigh_moves (s : State) : Moves s (sbdtHigh s) := (setLine_core s _).moves
theorem sbckHigh_moves (s : State) : Moves s (sbckHigh s) := (setLine_core s _).moves

/-! ### The recovery sequence -/

/-- A step of the sequence inside it (R179). -/
theorem sequence_moves {s : State} {p : Port} (running : s.port.recovery ≠ .none) (st : p.state = s.port.state)
    (goesOn : p.recovery ≠ .none) : Moves s (s.setPort p) := (PortMove.sequence p running ⟨st, goesOn⟩).moves

theorem recoveryFail_moves {s : State} (h : s.port.state = .fault ∨ s.port.recovery ≠ .none) :
    Moves s (recoveryFail s) :=
  (PortMove.fail { s.port.sequenceOver with state := .fault } h ⟨rfl, rfl, rfl, rfl⟩).moves.trans (setEvent_core _ _).moves

theorem recoverySucceed_moves {s : State} (running : s.port.recovery ≠ .none) : Moves s (recoverySucceed s) :=
  ((PortMove.succeed running).moves.trans (setEvent_core _ _).moves).trans (choose_moves _)

theorem startPulse_moves {s : State} (running : s.port.recovery ≠ .none) : Moves s (startPulse s) := by
  refine .trans ?_ (setLine_core _ _).moves
  exact sequence_moves running rfl (by simp)

theorem startStop_moves {s : State} (running : s.port.recovery ≠ .none) : Moves s (startStop s) := by
  refine .trans ?_ (setLine_core _ _).moves
  exact sequence_moves running rfl (by simp)

theorem recoveryCountEnd_moves (s : State) : Moves s (recoveryCountEnd s) := by
  by_cases none : s.port.recovery = .none
  · simp only [recoveryCountEnd, none]
    exact .refl
  unfold recoveryCountEnd
  split
  case h_1 => exact .refl
  case h_2 => exact sequence_moves none rfl (by simp)
  case h_3 =>
    unfold pulseDecide
    split
    · exact startStop_moves none
    split
    · exact startPulse_moves none
    · exact recoveryFail_moves (.inr none)
  case h_4 =>
    refine .trans ?_ (sbdtLow_moves _)
    exact sequence_moves none rfl (by simp)
  case h_5 => exact sequence_moves none rfl (by simp)
  case h_6 => exact sequence_moves none rfl (by simp)
  all_goals exact recoveryFail_moves (.inr none)

theorem recoveryRise_moves (b : Bool) (s : State) : Moves s (recoveryRise b s) := by
  unfold recoveryRise
  split
  case h_1 phase => exact sequence_moves (by simp [phase]) rfl (by simp)
  case h_2 phase => exact sequence_moves (by simp [phase]) rfl (by simp)
  case h_3 phase =>
    split
    · exact recoverySucceed_moves (by simp [phase])
    · exact .refl
  case h_4 => exact .refl

theorem recoveryStop_moves (s : State) : Moves s (recoveryStop s) := by
  unfold recoveryStop
  split
  · rename_i phase
    exact recoverySucceed_moves (by simp [phase])
  · exact .refl

/-! ### Rises, Stops and the counts -/

theorem clockRises_moves (b : Bool) (s : State) : Moves s (clockRises b s) :=
  ((((sbckHigh_moves s).trans (engineRise_moves b _)).trans (RemoteMove.rise b).moves).trans
    (recoveryRise_moves b _)).trans (choose_moves _)

theorem stopSeen_moves (s : State) : Moves s (stopSeen s) :=
  ((((sbdtHigh_moves s).trans (engineStopSeen_moves _)).trans RemoteMove.close.moves).trans
    (recoveryStop_moves _)).trans (choose_moves _)

theorem responderPulls_moves (s : State) : Moves s (responderPulls s) := by
  unfold responderPulls
  split
  · exact .refl
  split
  · exact startSeen_moves s
  · exact sbdtLow_moves s

theorem responderSets_moves (s : State) : Moves s (responderSets s) := by
  unfold responderSets
  split
  · exact .refl
  · rename_i counting
    have level : Moves s (levelSet s) := (RemoteMove.level (by simp [counting])).moves
    dsimp only
    split
    · exact level.trans (responderPulls_moves _)
    · exact level

theorem responderReleases_moves (s : State) : Moves s (responderReleases s) := by
  unfold responderReleases
  split
  · exact .refl
  · exact counts_moves ⟨rfl, rfl, rfl, rfl, .inr rfl, rfl, id, fun _ => rfl⟩

theorem responderCountEnd_moves (s : State) : Moves s (responderCountEnd s) :=
  (responderSets_moves s).trans (responderReleases_moves _)

theorem engineSetsData_moves {s : State} (phase : s.engine.phase = .lowFirst) : Moves s (engineSetsData s) := by
  have busy : s.engine ≠ s.engine.idled := Engine.ne_idled_of_phase (by simp [phase])
  have drives (e : Engine) (held : e.held = s.engine.held) (frame : e.frameIndex = s.engine.frameIndex)
      (st : e.st = s.engine.st) (same : e.phase = s.engine.phase) : Moves s (s.setEngine e) :=
    engine_moves (.of_same (fun idle => absurd idle busy) held frame st same)
  unfold engineSetsData
  dsimp only
  split
  · exact drives _ rfl rfl rfl rfl
  · refine .trans ?_ (sbdtLow_moves _)
    exact drives _ rfl rfl rfl rfl
  · split
    · refine .trans ?_ (sbdtLow_moves _)
      exact drives _ rfl rfl rfl rfl
    · exact drives _ rfl rfl rfl rfl

/-- SBDT set at the midpoint leaves the engine's phase (R2). -/
theorem engineSetsData_phase (s : State) : (engineSetsData s).engine.phase = s.engine.phase := by
  unfold engineSetsData
  dsimp only
  split
  · rfl
  · rfl
  · split <;> rfl

theorem engineMidpoint_moves {s : State} (phase : s.engine.phase = .lowFirst) : Moves s (engineMidpoint s) := by
  have busy : (engineSetsData s).engine ≠ (engineSetsData s).engine.idled :=
    Engine.ne_idled_of_phase (by simp [engineSetsData_phase, phase])
  refine (engineSetsData_moves phase).trans (engine_moves ?_)
  exact .of_phase busy rfl rfl rfl (by simp [ClockPhase.ofStop]) (by simp)

theorem engineCondHalf_moves {s : State} (phase : s.engine.phase = .condFirst) : Moves s (engineCondHalf s) := by
  have busy : s.engine ≠ s.engine.idled := Engine.ne_idled_of_phase (by simp [phase])
  unfold engineCondHalf
  dsimp only
  split
  · refine .trans (.trans ?_ (sbdtLow_moves _)) RemoteMove.start.moves
    exact engine_moves (.of_phase busy rfl rfl rfl (by simp [ClockPhase.ofStop]) (by simp))
  · rename_i notLinking
    refine engine_moves ⟨rfl, rfl, fun h => .inl h, fun idle => absurd idle busy, id, ?ofStop, ?ofCondition⟩
    case ofStop => exact fun _ => .inr (.inr ⟨phase, notLinking, rfl⟩)
    case ofCondition => simp

theorem engineGivesUpStop_moves {s : State} (phase : s.engine.phase = .stopWait) : Moves s (engineGivesUpStop s) := by
  refine engine_moves ⟨rfl, rfl, fun _ => .inr phase, ?stays, ?leaves, ?ofStop, ?ofCondition⟩
  case stays => exact fun idle => absurd idle (Engine.ne_idled_of_phase (by simp [phase]))
  case leaves => simp
  case ofStop => simp [ClockPhase.ofStop]
  case ofCondition => simp

theorem engineCountEnd_moves (s : State) : Moves s (engineCountEnd s) := by
  unfold engineCountEnd
  split
  case h_5 phase => exact engineMidpoint_moves phase
  case h_6 phase =>
    exact engine_moves (.of_phase (Engine.ne_idled_of_phase (by simp [phase])) rfl rfl rfl (by simp [ClockPhase.ofStop])
      (by simp))
  case h_7 phase => exact engineCondHalf_moves phase
  case h_8 phase => exact engineGivesUpStop_moves phase
  case h_1 | h_2 | h_3 | h_4 => exact clockFalls_moves s
  all_goals exact .refl

theorem controllerCountEnd_moves (s : State) : Moves s (controllerCountEnd s) := by
  unfold controllerCountEnd
  split
  · exact engineCountEnd_moves s
  · exact recoveryCountEnd_moves s

/-! ### The line state -/

theorem becomeQuiet_moves (s : State) : Moves s (becomeQuiet s) := by
  have closed := (setLine_core s { s.line with state := .quiet }).moves.trans RemoteMove.close.moves
  unfold becomeQuiet
  dsimp only
  split
  · rename_i released
    exact (closed.trans (EngineMove.toIdle (by simp [released, EngineState.inFrame])).moves).trans (choose_moves _)
  · exact closed.trans (choose_moves _)

theorem portStuck_moves (s : State) : Moves s (portStuck s) := by
  unfold portStuck
  split
  case h_1 running => exact (PortMove.stuck running).moves.trans (setEvent_core _ _).moves
  case h_2 => exact engineStuck_moves s
  all_goals exact .refl

theorem becomeStuck_moves (s : State) : Moves s (becomeStuck s) :=
  ((setLine_core s _).moves.trans RemoteMove.close.moves).trans (portStuck_moves _)

theorem riseEvent_moves (s : State) : Moves s (riseEvent s) := by
  unfold riseEvent
  split
  · exact clockRises_moves _ s
  · exact .refl

theorem settledRise_moves (s : State) : Moves s (settledRise s) := by
  unfold settledRise
  split
  · exact (responderCountEnd_moves s).trans (riseEvent_moves _)
  · exact .refl

theorem fallEvent_moves (s : State) : Moves s (fallEvent s) := by
  unfold fallEvent
  split
  · exact clockFalls_moves s
  · exact .refl

theorem startEvent_moves (s : State) : Moves s (startEvent s) := by
  unfold startEvent
  split
  · exact startSeen_moves s
  · exact .refl

theorem stopEvent_moves (s : State) : Moves s (stopEvent s) := by
  unfold stopEvent
  split
  · exact stopSeen_moves s
  · exact .refl

theorem dataEvent_moves (s : State) : Moves s (dataEvent s) := by
  unfold dataEvent
  split
  · exact .refl
  split
  · exact sbdtLow_moves s
  split
  · exact .refl
  · exact sbdtHigh_moves s

theorem quietEvent_moves (s : State) : Moves s (quietEvent s) := by
  unfold quietEvent
  split
  · exact (setLine_core s _).moves.trans (becomeQuiet_moves _)
  · exact .refl

theorem stuckEvent_moves (s : State) : Moves s (stuckEvent s) := by
  unfold stuckEvent
  split
  · exact becomeStuck_moves s
  · exact .refl

/-! ### The start of a frame and the expiries -/

theorem engineStartEvent_moves (s : State) : Moves s (engineStartEvent s) := by
  unfold engineStartEvent
  split
  · rename_i due
    have busy : s.engine.phase ≠ .none := by simp [due.2]
    split
    · refine .trans (.trans ?_ (sbdtLow_moves _)) RemoteMove.start.moves
      exact engine_moves (.of_phase (Engine.ne_idled_of_phase busy) rfl rfl rfl (by simp [ClockPhase.ofStop]) (by simp))
    · exact (report_moves busy (by decide)).trans (choose_moves _)
  · exact .refl

theorem waitTimeoutEvent_moves (s : State) : Moves s (waitTimeoutEvent s) := by
  unfold waitTimeoutEvent
  split
  · rename_i due
    have phase : s.engine.phase = .waiting := by
      simp only [waitDue, Bool.and_eq_true, beq_iff_eq] at due
      exact due.1.2
    exact (report_moves (by simp [phase]) (by decide)).trans (choose_moves _)
  · exact .refl

theorem deadlineExpires_moves (k : Fin 32) (s : State) : Moves s (deadlineExpires k s) := by
  unfold deadlineExpires
  split
  · split
    case h_1 waiting => exact (RequestMove.completeWaiting k .expired waiting).moves.trans (choose_moves _)
    case h_2 => exact (setTimer_core s k .lapsed).moves
    all_goals exact .refl
  · exact .refl

/-- One entry of the table is replaced by one that keeps its use, address and refs. -/
theorem entryKept_tset {v : Vector (Option NodeEntry) 16} {i : Fin 16} {n m : NodeEntry} (used : tget v i = some n)
    (address : m.address = n.address) (refs : m.refs = n.refs) (state : m.state = n.state ∨ m.state = .available) :
    ∀ j, EntryKept (tget v j) (tget (tset v i (some m)) j) := by
  intro j
  rw [tget_tset]
  split
  · rename_i same
    rw [same, used]
    exact ⟨address, refs, state⟩
  · cases tget v j with
    | none => trivial
    | some n => exact ⟨rfl, rfl, .inl rfl⟩

theorem backoffExpires_moves (i : Fin 16) (s : State) : Moves s (backoffExpires i s) := by
  unfold backoffExpires
  split
  · rename_i due
    cases used : tget s.nodes i with
    | none => simp [used, backoffDue] at due
    | some n =>
      exact (RequestMove.entries _ (entryKept_tset (m := n.backoffExpired) used rfl rfl (.inr rfl))).moves.trans
        (choose_moves _)
  · exact .refl

theorem stallExpires_moves (s : State) : Moves s (stallExpires s) := by
  unfold stallExpires
  split
  · rename_i due
    exact (RemoteMove.stallEnds due).moves
  · exact .refl

theorem msTick_moves (s : State) : Moves s (msTick s) := by
  have entries : Moves s (s.setNodes (tmap (fun e => e.map NodeEntry.tick) s.nodes)) := by
    refine (RequestMove.entries _ fun i => ?_).moves
    rw [tget_tmap]
    cases tget s.nodes i with
    | none => trivial
    | some n =>
      have kept : n.tick.address = n.address ∧ n.tick.refs = n.refs ∧ n.tick.state = n.state := by
        unfold NodeEntry.tick
        split <;> exact ⟨rfl, rfl, rfl⟩
      obtain ⟨address, refs, state⟩ := kept
      exact ⟨address, refs, .inl state⟩
  have engine := (RequestMove.engine (s := s.setNodes (tmap (fun e => e.map NodeEntry.tick) s.nodes))
    { s.engine with waitTimer := s.engine.waitTimer.map (· + 1) }
    (.of_same (fun idle => by rw [State.setNodes_engine] at idle ⊢; rw [idle]; rfl) rfl rfl rfl rfl)).moves
  refine (entries.trans engine).trans (SameCore.moves ?_)
  constructor <;> rfl

/-! ### One REFCLK period -/

theorem timeBasePeriod_moves (s : State) : Moves s (timeBasePeriod s) := by
  unfold timeBasePeriod
  split
  · exact SameCore.moves (by constructor <;> rfl)
  · exact msTick_moves s

theorem delayPeriod_moves (s : State) : Moves s (delayPeriod s) := by
  unfold delayPeriod
  split
  · exact .refl
  · rename_i counting
    split
    · exact responderSets_moves s
    · exact counts_moves ⟨rfl, rfl, rfl, rfl, .inl rfl, rfl, fun h => by simp [h] at counting, id⟩

theorem releasePeriod_moves (s : State) : Moves s (releasePeriod s) := by
  unfold releasePeriod
  split
  · exact .refl
  · rename_i counting
    split
    · exact responderReleases_moves s
    · exact counts_moves ⟨rfl, rfl, rfl, rfl, .inl rfl, rfl, id, fun h => by simp [h] at counting⟩

theorem enginePeriod_moves (s : State) : Moves s (enginePeriod s) := by
  unfold enginePeriod
  split
  · exact engineStartEvent_moves s
  split
  · rename_i counts
    have phase : s.engine.phase ≠ .none := by
      intro none
      simp [engineCounts, none] at counts
    split
    · exact engineCountEnd_moves s
    · exact engine_moves (.of_same (fun idle => absurd idle (Engine.ne_idled_of_phase phase)) rfl rfl rfl rfl)
  · exact .refl

theorem recoveryPeriod_moves (s : State) : Moves s (recoveryPeriod s) := by
  unfold recoveryPeriod
  split
  · exact .refl
  · rename_i running
    split
    · exact recoveryCountEnd_moves s
    · exact sequence_moves running rfl running

theorem quietPeriod_moves (s : State) : Moves s (quietPeriod s) := by
  unfold quietPeriod
  split
  · split
    · exact (setLine_core s _).moves
    · unfold quietTbCounted
      dsimp only
      split
      · exact (setLine_core s _).moves.trans (becomeQuiet_moves _)
      · exact (setLine_core s _).moves
  · exact .refl

theorem clockPeriod_moves (s : State) : Moves s (clockPeriod s) :=
  (((((timeBasePeriod_moves s).trans (delayPeriod_moves _)).trans (releasePeriod_moves _)).trans
    (enginePeriod_moves _)).trans (recoveryPeriod_moves _)).trans (quietPeriod_moves _)

theorem takeDue_moves (s : State) (d : Due) : Moves s (takeDue s d) := by
  cases d with
  | deadline k => exact deadlineExpires_moves k s
  | backoff i => exact backoffExpires_moves i s
  | wait => exact waitTimeoutEvent_moves s
  | stall => exact stallExpires_moves s
  | stuck => exact stuckEvent_moves s

theorem idle_moves (s : State) : Moves s (idle s) := by
  unfold idle
  split
  · exact takeDue_moves s _
  · split
    · exact (setHost_core s _).moves
    · exact (setHost_core s _).moves.trans (clockPeriod_moves _)

end Sys2Proof.Machine

/-! A step is a chain of moves: the host's commands and word writes, the named events, and the step itself. -/

namespace Sys2Proof.Machine

/-! ### The Responder's and the port's commands -/

/-- The first test of a port's state by its match. -/
theorem portEnable_moves (s : State) : Moves s (portEnable s).state := by
  unfold portEnable
  split
  · exact .refl
  split
  · rename_i disabled _
    exact (PortMove.enable (Classical.not_not.mp disabled)).moves.trans (choose_moves _)
  · exact .refl

theorem portDisable_moves (s : State) : Moves s (portDisable s).state := by
  unfold portDisable
  split
  case h_1 running =>
    split
    · rename_i idle
      exact (PortMove.disable running idle).moves.trans (setEvent_core _ _).moves
    · rename_i busy
      exact (PortMove.stop running busy).moves
  case h_2 fault => exact (PortMove.clearFault fault).moves.trans (setLine_core _ _).moves
  all_goals exact .refl

theorem recoverCommand_moves (s : State) : Moves s (recoverCommand s).state := by
  unfold recoverCommand
  split
  · rename_i fault
    have recovers (p : Port) (state : p.state = .recovering) (phase : p.recovery ≠ .none) : Moves s (s.setPort p) :=
      (PortMove.recover p fault ⟨state, phase⟩).moves
    show Moves s (recoverBegin s)
    unfold recoverBegin
    dsimp only
    split
    · refine .trans ?_ (setEvent_core _ _).moves
      exact (PortMove.fail _ (.inl fault) ⟨rfl, rfl, rfl, rfl⟩).moves
    split
    · refine .trans ?_ (setLine_core _ _).moves
      exact recovers _ rfl (by simp)
    · refine .trans ?_ (setLine_core _ _).moves
      exact recovers _ rfl (by simp)
  · exact .refl

/-! ### The commands of requests and nodes -/

theorem submitCommand_moves (s : State) : Moves s (submitCommand s).state := by
  unfold submitCommand
  split
  · exact .refl
  · rename_i passed
    exact (RequestMove.place _ _ _ passed).moves.trans (choose_moves _)

theorem cancelCommand_moves (arg : BitVec 16) (s : State) : Moves s (cancelCommand arg s).state := by
  unfold cancelCommand
  split
  · exact .refl
  · split
    case h_1 waiting => exact (RequestMove.completeWaiting _ .cancelled waiting).moves.trans (choose_moves _)
    case h_2 =>
      refine slot_moves ?_
      exact ⟨rfl, rfl, rfl, rfl⟩
    all_goals exact .refl

theorem popCompletionCommand_moves (s : State) : Moves s (popCompletionCommand s).state := by
  unfold popCompletionCommand
  split
  · exact .refl
  · rename_i head
    exact (RequestMove.pop _ _ head).moves

/-- What a lookup by address finds is an entry in use that holds it (R61). -/
theorem findNode_some {a : Byte} {s : State} {i : Fin 16} (h : findNode a s = some i) :
    ∃ n, tget s.nodes i = some n ∧ n.address = a := by
  have holds := tfind_some h
  cases used : tget s.nodes i with
  | none => simp [used, entryHolds] at holds
  | some n => exact ⟨n, rfl, by simpa [used, entryHolds] using holds⟩

theorem nodeWriteCommand_moves (s : State) : Moves s (nodeWriteCommand s).state := by
  unfold nodeWriteCommand
  dsimp only
  split
  · exact .refl
  · rename_i valid
    split
    case h_1 i found =>
      obtain ⟨n, used, -⟩ := findNode_some found
      refine (RequestMove.entries _ ?_).moves
      exact entryKept_tset used (by simp [used, editPolicy]) (by simp [used, editPolicy]) (.inl (by simp [used, editPolicy]))
    case h_2 missing =>
      split
      case h_1 i unused =>
        have none : tget s.nodes i = none := by simpa using tfind_some unused
        refine (RequestMove.createEntry i (editPolicy s.edit (NodeEntry.fresh (editNodeAddress s.edit))) none missing
          ?valid rfl rfl).moves
        case valid => exact not_or.mp valid
      case h_2 => exact .refl

/-- The entry that a node command names is in use (R75, R76). -/
theorem nodeTarget_some {arg : BitVec 16} {s : State} {i : Fin 16} {n : NodeEntry} (h : nodeTarget arg s = some (i, n)) :
    tget s.nodes i = some n := by
  unfold nodeTarget at h
  split at h
  · cases h
  · split at h
    · cases h
    · simp only [Option.map_eq_some_iff, Prod.mk.injEq] at h
      obtain ⟨m, used, rfl, rfl⟩ := h
      exact used

theorem nodeRemoveCommand_moves (arg : BitVec 16) (s : State) : Moves s (nodeRemoveCommand arg s).state := by
  unfold nodeRemoveCommand
  split
  · exact .refl
  · rename_i i n target
    split
    · exact .refl
    · rename_i unnamed
      exact (RequestMove.removeEntry i n (nodeTarget_some target) (Nat.eq_zero_of_not_pos unnamed)).moves

theorem nodeResumeCommand_moves (arg : BitVec 16) (s : State) : Moves s (nodeResumeCommand arg s).state := by
  unfold nodeResumeCommand
  split
  · exact .refl
  · rename_i i n target
    split
    · exact .refl
    · exact (RequestMove.entries _ (entryKept_tset (m := n.resumed) (nodeTarget_some target) rfl rfl (.inr rfl))).moves.trans
        (choose_moves _)

/-! ### The commands of windows, holds and notify records -/

theorem windowWriteCommand_moves (arg : BitVec 16) (s : State) : Moves s (windowWriteCommand arg s).state := by
  unfold windowWriteCommand
  split
  · exact .refl
  · split
    · exact .refl
    · rename_i i _ disabled
      exact (RemoteMove.writeWindow i (by simpa using disabled)).moves

theorem windowEnableCommand_moves (arg : BitVec 16) (s : State) : Moves s (windowEnableCommand arg s).state := by
  unfold windowEnableCommand
  split
  · exact .refl
  split
  · exact .refl
  split
  · exact .refl
  · rename_i i _ _ valid
    split
    · exact .refl
    · rename_i free
      exact (RemoteMove.enableWindow i (by simpa using valid) free).moves

theorem windowDisableCommand_moves (arg : BitVec 16) (s : State) : Moves s (windowDisableCommand arg s).state := by
  unfold windowDisableCommand
  split
  · exact .refl
  split
  · exact .refl
  split
  · exact .refl
  · rename_i i _ _ quiet
    simp only [Bool.or_eq_true, not_or, Bool.not_eq_true] at quiet
    exact (RemoteMove.disableWindow i quiet.1).moves

theorem holdWindowCommand_moves (arg : BitVec 16) (s : State) : Moves s (holdWindowCommand arg s).state := by
  unfold holdWindowCommand
  split
  · exact .refl
  split
  · exact .refl
  · rename_i i _ _
    split
    case h_1 =>
      split
      · rename_i inFrame
        exact (RemoteMove.hold i .pending ⟨fun _ => inFrame, by simp⟩).moves
      · rename_i outside
        exact (RemoteMove.hold i .held ⟨by simp, fun _ => by simpa using outside⟩).moves
    all_goals exact .refl

theorem releaseWindowCommand_moves (arg : BitVec 16) (s : State) : Moves s (releaseWindowCommand arg s).state := by
  unfold releaseWindowCommand
  split
  · exact .refl
  · rename_i i _
    have opens : Moves s (changeHold i .open s) := (RemoteMove.hold i .open ⟨by simp, by simp⟩).moves
    split
    · exact .refl
    · exact opens
    · exact opens

theorem popNotifyCommand_moves (s : State) : Moves s (popNotifyCommand s).state := by
  unfold popNotifyCommand
  split
  · exact .refl
  · rename_i head
    exact (RemoteMove.popNotify _ _ head).moves

/-! ### The command word and the word writes -/

theorem runCommand_moves {body : State → Reply} (h : ∀ s, Moves s (body s).state) (s : State) :
    Moves s (runCommand body s) :=
  ((setHost_core s _).moves.trans (h _)).trans (setHost_core _ _).moves

theorem wordWrite_moves {effect : State → State} (a : BitVec 9) (h : ∀ s, Moves s (effect s)) (s : State) :
    Moves s (wordWrite a effect s) := by
  unfold wordWrite
  split
  · exact (h s).trans (setHost_core _ _).moves
  · exact .refl

theorem hostCommand_moves {body : State → Reply} (h : ∀ s, Moves s (body s).state) (s : State) :
    Moves s (hostCommand body s) := wordWrite_moves _ (runCommand_moves h) s

theorem commandBody_moves (code : BitVec 8) (arg : BitVec 16) : ∀ s, Moves s (commandBody code arg s).state := by
  have row {c : Prop} [Decidable c] {a b : State → Reply} (ha : ∀ s, Moves s (a s).state) (hb : ∀ s, Moves s (b s).state) :
      ∀ s, Moves s ((if c then a else b) s).state := by
    split
    · exact ha
    · exact hb
  unfold commandBody
  exact row submitCommand_moves <| row (cancelCommand_moves arg) <| row popCompletionCommand_moves <|
    row popNotifyCommand_moves <| row nodeWriteCommand_moves <| row (nodeRemoveCommand_moves arg) <|
    row (nodeResumeCommand_moves arg) <| row (windowWriteCommand_moves arg) <| row (windowEnableCommand_moves arg) <|
    row (windowDisableCommand_moves arg) <| row (holdWindowCommand_moves arg) <| row (releaseWindowCommand_moves arg) <|
    row portEnable_moves <| row portDisable_moves <| row recoverCommand_moves <|
    row (fun _ => .single (.softReset rfl)) fun _ => .refl

theorem writePortConfiguration_core (w : Word) (s : State) : SameCore s (writePortConfiguration w s) := by
  unfold writePortConfiguration
  split
  · exact (setCfg_core s _).trans (setLine_core _ _)
  · exact SameCore.refl s

theorem writeStaging_moves (i : Nat) (w : Word) (s : State) : Moves s (writeStaging i w s) := by
  unfold writeStaging
  split
  · exact (setEdit_core s _).moves
  · exact .refl

theorem wordEffect_moves (a : Nat) (w : Word) (s : State) : Moves s (wordEffect a w s) := by
  have word {c : Prop} [Decidable c] {t u : State} (ht : Moves s t) (hu : Moves s u) : Moves s (if c then t else u) := by
    split
    · exact ht
    · exact hu
  unfold wordEffect
  exact word (writePortConfiguration_core w s).moves <| word (setCfg_core s _).moves <| word (setCfg_core s _).moves <|
    word (runCommand_moves (commandBody_moves _ _) s) <| word (setEvents_core s _).moves <|
    word (setEvents_core s _).moves <| word (setEdit_core s _).moves <| word (setEdit_core s _).moves <|
    word (setEdit_core s _).moves <| word (setEdit_core s _).moves <| word (writeStaging_moves _ w s) <|
    word (RemoteMove.writePage _ w).moves .refl

theorem openTransaction_moves (s : State) : Moves s (openTransaction s) := by
  unfold openTransaction
  split
  · exact (setHost_core s _).moves
  · exact .refl

theorem takeHeader_moves (h : BitVec 16) (s : State) : Moves s (takeHeader h s) := by
  unfold takeHeader
  split
  · split
    · exact (setHost_core s _).moves
    · exact (setHost_core s _).moves.trans (setEvent_core _ _).moves
  · exact .refl

theorem closeTransaction_moves (s : State) : Moves s (closeTransaction s) := by
  unfold closeTransaction
  split
  · exact .refl
  · exact (setHost_core s _).moves

/-! ### The named events -/

theorem riseCase_moves (p : State → Bool) (s : State) : Moves s (riseCase p s) := by
  unfold riseCase
  split
  · exact (responderCountEnd_moves s).trans (riseEvent_moves _)
  · exact .refl

theorem endCase_moves (st : EngineState) (n : Nat) (s : State) : Moves s (endCase st n s) := by
  unfold endCase
  split
  · exact fallEvent_moves s
  · exact .refl

theorem restartHalf_moves (s : State) : Moves s (restartHalf s) := by
  unfold restartHalf
  split
  · rename_i half
    exact engineCondHalf_moves half.2
  · exact .refl

theorem restartEnds_moves (s : State) : Moves s (restartEnds s) := by
  unfold restartEnds
  split
  · exact fallEvent_moves s
  · exact .refl

theorem recoveryEnds_moves (p : RecoveryPhase) (s : State) : Moves s (recoveryEnds p s) := by
  unfold recoveryEnds
  split
  · exact recoveryCountEnd_moves s
  · exact .refl

theorem recoveryRises_moves (p : RecoveryPhase) (s : State) : Moves s (recoveryRises p s) := by
  unfold recoveryRises
  split
  · exact settledRise_moves s
  · exact .refl

theorem recoveryStopLeft_moves (s : State) : Moves s (recoveryStopLeft s) :=
  (((recoveryEnds_moves .stopLow s).trans (recoveryEnds_moves .stopData _)).trans (recoveryRises_moves .stopRise _)).trans
    (recoveryEnds_moves .stopHalf _)

theorem recoveryFails_moves (s : State) : Moves s (recoveryFails s) := by
  have once := recoveryCountEnd_moves s
  have twice := once.trans (recoveryCountEnd_moves _)
  unfold recoveryFails
  split
  case h_1 => exact .refl
  case h_2 => exact twice
  case h_3 =>
    split
    · exact once
    · exact .refl
  case h_4 => exact twice.trans (recoveryCountEnd_moves _)
  case h_5 => exact twice
  case h_6 => exact twice
  all_goals exact once

theorem lineActive_moves (line : BusLine) (s : State) : Moves s (lineActive line s) := by
  unfold lineActive
  split
  · split
    · exact fallEvent_moves s
    · exact startEvent_moves s
  · exact .refl

theorem execBusFault_moves (s : State) : ∃ t, execBusFault s = .next t ∧ Moves s t := by
  unfold execBusFault
  split
  · exact ⟨_, rfl, (responderCountEnd_moves s).trans (riseEvent_moves _)⟩
  split
  · refine ⟨_, rfl, ?_⟩
    split
    · exact startSeen_moves s
    · exact stopEvent_moves s
  · exact ⟨s, rfl, .refl⟩

theorem execBadCommand_moves (code : BitVec 8) (s : State) : ∃ t, execBadCommand code s = .next t ∧ Moves s t := by
  unfold execBadCommand
  split
  · exact ⟨s, rfl, .refl⟩
  · exact ⟨_, rfl, hostCommand_moves (body := badCommandReply) (fun _ => .refl) s⟩

/-! ### Every command, and the step -/

/-- Every command answers a next state, by a chain of moves. -/
theorem exec_moves (c : Instr) (s : State) : ∃ t, exec c s = .next t ∧ Moves s t := by
  cases c with
  | submit => exact ⟨_, rfl, hostCommand_moves submitCommand_moves s⟩
  | cancel arg => exact ⟨_, rfl, hostCommand_moves (cancelCommand_moves arg) s⟩
  | popCompletion => exact ⟨_, rfl, hostCommand_moves popCompletionCommand_moves s⟩
  | popNotify => exact ⟨_, rfl, hostCommand_moves popNotifyCommand_moves s⟩
  | nodeWrite => exact ⟨_, rfl, hostCommand_moves nodeWriteCommand_moves s⟩
  | nodeRemove arg => exact ⟨_, rfl, hostCommand_moves (nodeRemoveCommand_moves arg) s⟩
  | nodeResume arg => exact ⟨_, rfl, hostCommand_moves (nodeResumeCommand_moves arg) s⟩
  | windowWrite arg => exact ⟨_, rfl, hostCommand_moves (windowWriteCommand_moves arg) s⟩
  | windowEnable arg => exact ⟨_, rfl, hostCommand_moves (windowEnableCommand_moves arg) s⟩
  | windowDisable arg => exact ⟨_, rfl, hostCommand_moves (windowDisableCommand_moves arg) s⟩
  | holdWindow arg => exact ⟨_, rfl, hostCommand_moves (holdWindowCommand_moves arg) s⟩
  | releaseWindow arg => exact ⟨_, rfl, hostCommand_moves (releaseWindowCommand_moves arg) s⟩
  | portEnable => exact ⟨_, rfl, hostCommand_moves portEnable_moves s⟩
  | portDisable => exact ⟨_, rfl, hostCommand_moves portDisable_moves s⟩
  | recover => exact ⟨_, rfl, hostCommand_moves recoverCommand_moves s⟩
  | softReset => exact ⟨_, rfl, hostCommand_moves (body := softResetCommand) (fun _ => .single (.softReset rfl)) s⟩
  | badCommand code => exact execBadCommand_moves code s
  | portConfigurationWrite w => exact ⟨_, rfl, wordWrite_moves _ (fun s => (writePortConfiguration_core w s).moves) s⟩
  | timingConfigurationWrite w =>
    exact ⟨_, rfl, wordWrite_moves (effect := writeTiming w) _ (fun s => (setCfg_core s _).moves) s⟩
  | queueLimitsWrite w =>
    exact ⟨_, rfl, wordWrite_moves (effect := writeQueueLimits w) _ (fun s => (setCfg_core s _).moves) s⟩
  | eventsWrite w => exact ⟨_, rfl, wordWrite_moves (effect := writeEvents w) _ (fun s => (setEvents_core s _).moves) s⟩
  | eventEnablesWrite w =>
    exact ⟨_, rfl, wordWrite_moves (effect := writeEnables w) _ (fun s => (setEvents_core s _).moves) s⟩
  | registerWrite addr w => exact ⟨_, rfl, wordWrite_moves _ (wordEffect_moves addr.toNat w) s⟩
  | spiHeader header => exact ⟨_, rfl, takeHeader_moves header s⟩
  | spiTransactionEnd => exact ⟨_, rfl, closeTransaction_moves s⟩
  | rst a b c => exact ⟨_, rfl, .single (.hardReset a b c rfl)⟩
  | msTick => exact ⟨_, rfl, msTick_moves s⟩
  | deadlineExpiry slot => exact ⟨_, rfl, deadlineExpires_moves slot s⟩
  | backoffExpiry entry => exact ⟨_, rfl, backoffExpires_moves entry s⟩
  | waitTimeout => exact ⟨_, rfl, waitTimeoutEvent_moves s⟩
  | stallExpiry => exact ⟨_, rfl, stallExpires_moves s⟩
  | lineQuiet => exact ⟨_, rfl, quietEvent_moves s⟩
  | lineActive line => exact ⟨_, rfl, lineActive_moves line s⟩
  | lineStuck => exact ⟨_, rfl, stuckEvent_moves s⟩
  | engineStart => exact ⟨_, rfl, engineStartEvent_moves s⟩
  | arbLost => exact ⟨_, rfl, riseCase_moves _ s⟩
  | arbWon => exact ⟨_, rfl, riseCase_moves _ s⟩
  | engineClaim => exact ⟨_, rfl, (riseCase_moves _ s).trans (endCase_moves _ _ _)⟩
  | engineResponseSlot => exact ⟨_, rfl, (riseCase_moves _ s).trans (endCase_moves _ _ _)⟩
  | busFault => exact execBusFault_moves s
  | restart => exact ⟨_, rfl, (restartHalf_moves s).trans (restartEnds_moves _)⟩
  | stop =>
    refine ⟨_, rfl, ?_⟩
    split
    · exact stopEvent_moves s
    · exact .refl
  | released =>
    refine ⟨_, rfl, ?_⟩
    split
    · exact engineCountEnd_moves s
    · exact .refl
  | busStart => exact ⟨_, rfl, startEvent_moves s⟩
  | busStop => exact ⟨_, rfl, stopEvent_moves s⟩
  | claimDecision => exact ⟨_, rfl, riseCase_moves _ s⟩
  | responderClaim => exact ⟨_, rfl, riseCase_moves _ s⟩
  | readResponseSlot => exact ⟨_, rfl, riseCase_moves _ s⟩
  | commit =>
    refine ⟨_, rfl, ?_⟩
    split
    · exact responderCountEnd_moves s
    · exact .refl
  | writeCheckFail => exact ⟨_, rfl, riseCase_moves _ s⟩
  | recoveryPulse =>
    exact ⟨_, rfl, ((recoveryEnds_moves _ s).trans (recoveryRises_moves _ _)).trans (recoveryEnds_moves _ _)⟩
  | recoveryDone =>
    refine ⟨_, rfl, ?_⟩
    split
    · exact (recoveryStopLeft_moves s).trans (stopEvent_moves _)
    · exact .refl
  | recoveryFailed => exact ⟨_, rfl, recoveryFails_moves s⟩
  | sbckRise early =>
    refine ⟨_, rfl, ?_⟩
    split
    · exact riseEvent_moves s
    · exact settledRise_moves s
  | sbckFall => exact ⟨_, rfl, fallEvent_moves s⟩
  | phaseCountEnd count =>
    cases count with
    | controller => exact ⟨_, rfl, controllerCountEnd_moves s⟩
    | responder => exact ⟨_, rfl, responderCountEnd_moves s⟩
  | sbdtChange => exact ⟨_, rfl, dataEvent_moves s⟩
  | csFall => exact ⟨_, rfl, openTransaction_moves s⟩

/-- A step is a chain of moves from the state with its command taken. -/
theorem step_moves {s t : State} (h : step s = .next t) : ∃ l, Moves (s.setPending l) t := by
  unfold step at h
  split at h
  · rename_i c rest _
    obtain ⟨u, answer, moves⟩ := exec_moves c (s.setPending rest)
    rw [answer, Host.Outcome.next.injEq] at h
    exact ⟨rest, h ▸ moves⟩
  · rw [Host.Outcome.next.injEq] at h
    exact ⟨s.pending, h ▸ idle_moves s⟩

/-- What every move keeps, and does not read the queue of commands, every step keeps. -/
theorem step_keeps {I : State → Prop} (kept : ∀ {s t}, Move s t → I s → I t)
    (unread : ∀ s l, I s → I (State.setPending s l)) {s t : State} (h : step s = .next t) (i : I s) : I t := by
  obtain ⟨l, moves⟩ := step_moves h
  exact moves.keep kept (unread s l i)

/-- What every move keeps beside a companion that every move keeps, every step keeps. -/
theorem step_keeps_beside {J I : State → Prop} (companion : ∀ {s t}, Move s t → J s → J t)
    (kept : ∀ {s t}, Move s t → J s → I s → I t) (unread : ∀ s l, J s ∧ I s → J (State.setPending s l) ∧ I (s.setPending l))
    {s t : State} (h : step s = .next t) (j : J s) (i : I s) : I t :=
  (step_keeps (I := fun s => J s ∧ I s) (fun m both => ⟨companion m both.1, kept m both.1 both.2⟩) unread h ⟨j, i⟩).2

end Sys2Proof.Machine

/-! What a move does to the windows, page memory and the notify queue: a chain of edits. The invariants that read only these are kept by every edit. -/

namespace Sys2Proof.Machine

/-! ### The data and its edits -/

/-- The windows, page memory, the notify queue and the reservation. -/
structure RemoteData where
  windows : Vector Window 8
  page : Memory
  queue : List NotifyRecord
  reservation : Bool

/-- The remote data of the part. -/
def State.remote (s : State) : RemoteData where
  windows := s.windows
  page := s.page
  queue := s.hold.queue
  reservation := s.hold.reservation

/-- Window i as f changes it. -/
def RemoteData.editWindow (d : RemoteData) (i : Fin 8) (f : Window → Window) : RemoteData :=
  { d with windows := tset d.windows i (f (tget d.windows i)) }

/-- One change of the remote data, with what guards it. -/
inductive RemoteEdit (d : RemoteData) : RemoteData → Prop
  | frameEnd (i : Fin 8) : RemoteEdit d (d.editWindow i Window.frameEnd)
  | framesEnd : RemoteEdit d { d with windows := tmap Window.frameEnd d.windows }
  | frameBegin (i : Fin 8) (notHeld : (tget d.windows i).hold ≠ .held) :
      RemoteEdit d (d.editWindow i fun w => { w with inFrame := true })
  | reserve (room : d.queue.length + (if d.reservation then 1 else 0) ≠ 16) : RemoteEdit d { d with reservation := true }
  | giveBack : RemoteEdit d { d with reservation := false }
  | record (r : NotifyRecord) (reserved : d.reservation = true) :
      RemoteEdit d { d with queue := d.queue ++ [r], reservation := false }
  | pop (r : NotifyRecord) (rest : List NotifyRecord) (head : d.queue = r :: rest) : RemoteEdit d { d with queue := rest }
  | write (a : Nat) (l : List Byte) : RemoteEdit d { d with page := d.page.writeBytes a l }
  | settings (i : Fin 8) (w : Window) (disabled : w.enabled = false) (hold : w.hold = (tget d.windows i).hold)
      (inFrame : w.inFrame = (tget d.windows i).inFrame) : RemoteEdit d (d.editWindow i fun _ => w)
  | enable (i : Fin 8) (valid : windowSettingsValid (tget d.windows i) = true)
      (free : tfind (fun w => w.enabled && w.node == (tget d.windows i).node) d.windows = none) :
      RemoteEdit d (d.editWindow i fun w => { w with enabled := true })
  | disable (i : Fin 8) : RemoteEdit d (d.editWindow i fun w => { w with enabled := false, hold := .open })
  | hold (i : Fin 8) (h : HoldState)
      (legal : (h = .pending → (tget d.windows i).inFrame = true) ∧ (h = .held → (tget d.windows i).inFrame = false)) :
      RemoteEdit d (d.editWindow i fun w => { w with hold := h })
  | softReset : RemoteEdit d { d with windows := tmap Window.softReset d.windows, queue := [], reservation := false }
  | hardReset : RemoteEdit d State.reset.remote

/-- The second state's remote data is the first's after a chain of edits. -/
def Edits (s t : State) : Prop := StepPath RemoteEdit s.remote t.remote

theorem Edits.of_eq {s t : State} (same : t.remote = s.remote) : Edits s t := by
  unfold Edits
  rw [same]
  exact .refl

theorem Edits.refl (s : State) : Edits s s := .of_eq rfl

theorem Edits.trans {s t u : State} (a : Edits s t) (b : Edits t u) : Edits s u := StepPath.trans a b

/-- A chain from a state with the same remote data. -/
theorem Edits.from {s s' t : State} (e : Edits s' t) (same : s'.remote = s.remote) : Edits s t :=
  Edits.trans (.of_eq same) e

/-- A chain to a state with the same remote data. -/
theorem Edits.to {s t t' : State} (e : Edits s t) (same : t'.remote = t.remote) : Edits s t' := e.trans (.of_eq same)

theorem RemoteEdit.edits {s t : State} (e : RemoteEdit s.remote t.remote) : Edits s t := .single e

/-- What every edit keeps of the remote data, a chain of edits keeps. -/
theorem Edits.keep {I : RemoteData → Prop} (kept : ∀ {d d'}, RemoteEdit d d' → I d → I d') {s t : State} (e : Edits s t)
    (h : I s.remote) : I t.remote := by
  unfold Edits at e
  generalize t.remote = d at e
  induction e with
  | refl => exact h
  | tail _ last ih => exact kept last ih

/-! ### Frames that begin and end -/

theorem endWindowFrame_remote (i : Fin 8) (s : State) :
    (endWindowFrame i s).remote = s.remote.editWindow i Window.frameEnd := by
  unfold endWindowFrame
  dsimp only
  split <;> rfl

theorem endWindowFrame_edits (i : Fin 8) (s : State) : Edits s (endWindowFrame i s) :=
  RemoteEdit.edits (endWindowFrame_remote i s ▸ .frameEnd i)

theorem giveUpFrame_edits (s : State) : Edits s (giveUpFrame s) := by
  have ends : Edits s (endAllFrames s) := by
    have same : (endAllFrames s).remote = { s.remote with windows := tmap Window.frameEnd s.remote.windows } := by
      unfold endAllFrames
      dsimp only
      split <;> rfl
    exact RemoteEdit.edits (same ▸ .framesEnd)
  exact ends.trans (RemoteEdit.edits (s := endAllFrames s) (t := giveUpFrame s) .giveBack)

theorem responderOff_edits (s : State) : Edits s (responderOff s) := (giveUpFrame_edits s).trans (.of_eq rfl)

theorem breakFrame_edits (s : State) : Edits s (breakFrame s) := by
  unfold breakFrame
  split
  · exact giveUpFrame_edits s
  · exact .refl s

theorem responderStart_edits (s : State) : Edits s (responderStart s) := by
  unfold responderStart
  split
  · exact .refl s
  · exact (breakFrame_edits s).trans (.of_eq rfl)

theorem responderClose_edits (s : State) : Edits s (responderClose s) := by
  unfold responderClose
  split
  · exact .refl s
  · exact (breakFrame_edits s).trans (.of_eq rfl)

/-- With no reason against it a frame begins past PROCEED (R139, R141, R162). -/
theorem beginFrame_edits {i : Fin 8} {s : State} (notHeld : reasonHeldFor s i = false)
    (notFull : reasonFullFor s i (frameKind s) = false) : Edits s (beginFrame i s) := by
  have free : (windowOf s i).hold ≠ .held := by simpa [reasonHeldFor] using notHeld
  unfold beginFrame
  split
  · exact RemoteEdit.edits (t := takeSnapshot i s) (.frameBegin i free)
  · rename_i kind
    have begins (r : Bool) (reserved : StepPath RemoteEdit s.remote { s.remote with reservation := r })
        (eq : (s.hold.reservation || (windowOf s i).notify) = r) : Edits s (setUpIntake i s) := by
      have data : (setUpIntake i s).remote =
          ({ s.remote with reservation := r } : RemoteData).editWindow i fun w => { w with inFrame := true } := by
        rw [← eq]; rfl
      unfold Edits
      rw [data]
      exact reserved.tail (.frameBegin i free)
    by_cases notify : (windowOf s i).notify = true
    · refine begins true (.single (.reserve ?_)) (by simp [notify])
      have load : notifyLoad s.hold ≠ Config.notifyDepth := by simpa [reasonFullFor, kind, notify] using notFull
      exact load
    · refine begins s.hold.reservation .refl (by simp [notify])
  · exact .refl s

theorem dropFrame_edits (s : State) : Edits s (dropFrame s) := by
  unfold dropFrame
  split
  · exact .refl s
  · split
    · exact Edits.trans (RemoteEdit.edits .giveBack) (endWindowFrame_edits _ _)
    · exact .refl s

theorem discardWrite_edits (s : State) : Edits s (discardWrite s) := by
  have unreserved (r : Responder) : Edits s ((s.setResponder r).setHold { s.hold with reservation := false }) :=
    RemoteEdit.edits .giveBack
  unfold discardWrite
  dsimp only
  split
  · exact unreserved _
  · exact (unreserved _).trans (endWindowFrame_edits _ _)

theorem commitWrite_edits (i : Fin 8) (s : State) : Edits s (commitWrite i s) := by
  have written : Edits s (s.setPage (commitBytes s i)) := RemoteEdit.edits (.write _ _)
  have cleared (t : State) (r : Responder) : Edits t (endWindowFrame i (t.setResponder r)) :=
    (endWindowFrame_edits i (t.setResponder r)).from rfl
  unfold commitWrite
  dsimp only
  split
  · rename_i records
    have reserved : s.hold.reservation = true := by
      simp only [Bool.and_eq_true] at records
      exact records.2
    have recorded : Edits (s.setPage (commitBytes s i)) (appendNotify i (s.setPage (commitBytes s i))) :=
      RemoteEdit.edits (.record (notifyRecord (s.setPage (commitBytes s i)) i) reserved)
    exact (written.trans recorded).trans (cleared _ _)
  · exact written.trans (cleared _ _)

/-! ### Claims and stalls -/

/-- A claim table that lets a frame begin found no reason against it (R136). -/
theorem claimTable_begin {s : State} {i : Fin 8} (h : claimTable s i = .begin) :
    reasonHeldFor s i = false ∧ reasonFullFor s i (frameKind s) = false := by
  unfold claimTable at h
  dsimp only at h
  split at h
  · cases h
  · cases h
  · rename_i kind
    split at h
    · cases h
    split at h
    · cases h
    split at h
    · split at h <;> cases h
    · rename_i noReason
      simpa [kind] using noReason

theorem applyDecision_edits (i : Fin 8) (s : State) : Edits s (applyDecision i s) := by
  unfold applyDecision
  dsimp only
  split
  · exact .of_eq rfl
  · rename_i begins
    obtain ⟨notHeld, notFull⟩ := claimTable_begin begins
    exact Edits.from (Edits.to (beginFrame_edits notHeld notFull) rfl) rfl
  · exact .of_eq rfl
  · exact .of_eq rfl

theorem clashCheck_edits (s : State) : Edits s (clashCheck s) := by
  unfold clashCheck
  split <;> exact .of_eq rfl

theorem decideClaim_edits (s : State) : Edits s (decideClaim s) := by
  unfold decideClaim
  split
  · exact .of_eq rfl
  · dsimp only
    split
    · exact (clashCheck_edits s).trans (.of_eq rfl)
    · exact (clashCheck_edits s).trans (applyDecision_edits _ _)

theorem endStall_edits (c : ClaimCode) (s : State) : Edits s (endStall c s) := by
  unfold endStall
  dsimp only
  split <;> exact .of_eq rfl

theorem reevaluateStall_edits (s : State) : Edits s (reevaluateStall s) := by
  unfold reevaluateStall
  split
  · split
    · exact .refl s
    · split
      · exact .of_eq rfl
      · rename_i noReason
        simp only [Bool.or_eq_true, not_or, Bool.not_eq_true] at noReason
        exact (beginFrame_edits noReason.1 noReason.2).trans (endStall_edits _ _)
  · exact .refl s

/-! ### Rises and falls -/

theorem claimTaken_edits (c : ClaimCode) (s : State) : Edits s (claimTaken c s) := by
  unfold claimTaken
  dsimp only
  split
  · split
    · split <;> exact .of_eq rfl
    · exact .of_eq rfl
  · exact Edits.from (Edits.to (dropFrame_edits _) rfl) rfl

theorem passiveBit_edits (p : Nat) (b : Bool) (s : State) : Edits s (passiveBit p b s) := by
  unfold passiveBit
  dsimp only
  split
  · exact .of_eq rfl
  split <;> split <;> exact .of_eq rfl

theorem sendingBit_edits (p : Nat) (b : Bool) (s : State) : Edits s (sendingBit p b s) := by
  unfold sendingBit
  dsimp only
  split <;> split <;> exact .of_eq rfl

theorem receivingBit_edits (p : Nat) (b : Bool) (s : State) : Edits s (receivingBit p b s) := by
  unfold receivingBit
  dsimp only
  split
  · exact .of_eq rfl
  split
  · split
    · exact .of_eq rfl
    · exact Edits.from (discardWrite_edits _) rfl
  · exact .of_eq rfl

theorem confirmingBit_edits (s : State) : Edits s (confirmingBit s) := by
  unfold confirmingBit
  split
  · exact endWindowFrame_edits _ s
  · exact .refl s

theorem decodingBit_edits (p : Nat) (b : Bool) (s : State) : Edits s (decodingBit p b s) := by
  unfold decodingBit
  dsimp only
  split
  · exact Edits.from (decideClaim_edits _) rfl
  · exact .of_eq rfl

theorem responderRise_edits (b : Bool) (s : State) : Edits s (responderRise b s) := by
  unfold responderRise
  dsimp only
  split
  · exact .refl s
  · exact .of_eq rfl
  · split
    · exact Edits.from (decodingBit_edits _ _ _) rfl
    · exact Edits.from (passiveBit_edits _ _ _) rfl
    · split
      · exact .of_eq rfl
      · exact Edits.from (claimTaken_edits _ _) rfl
    · exact Edits.from (sendingBit_edits _ _ _) rfl
    · exact Edits.from (receivingBit_edits _ _ _) rfl
    · exact Edits.from (confirmingBit_edits _) rfl
    all_goals exact .of_eq rfl

theorem responderFall_edits (s : State) : Edits s (responderFall s) := by
  unfold responderFall
  dsimp only
  split
  case h_3 =>
    split
    · exact (dropFrame_edits s).trans (.of_eq rfl)
    · exact .of_eq rfl
  all_goals exact .of_eq rfl

theorem levelSet_edits (s : State) : Edits s (levelSet s) := by
  have commits : Edits s (commitNow s) := by
    unfold commitNow
    split
    · split
      · exact commitWrite_edits _ s
      · exact .refl s
    · exact .refl s
  exact commits.trans (.of_eq rfl)

/-! ### Every move -/

theorem SameRemote.edits {s t : State} (h : SameRemote s t) : Edits s t := by
  refine .of_eq ?_
  simp [State.remote, h.windows, h.page, h.notify, h.reservation]

theorem EngineFrame.remote {s t : State} (h : EngineFrame s t) : SameRemote s t := by
  constructor <;> simp [h.windows, h.responder, h.page, h.hold]

theorem SameCore.remote {s t : State} (h : SameCore s t) : SameRemote s t :=
  ⟨h.windows, h.responder, h.page, h.notify, h.reservation, h.stallWindow⟩

/-- The request side leaves the remote side alone. -/
theorem RequestMove.remote {s t : State} (m : RequestMove s t) : SameRemote s t := by
  cases m with
  | choice => exact (choose_frame s).engine.remote
  | place q c k passed => exact (placeRequest_frame k q c s).engine.remote
  | completeWaiting k o waiting => exact (complete_frame k o false s).engine.remote
  | slot k x kept => exact (setSlot_frame k x s).engine.remote
  | _ => constructor <;> rfl

/-- The engine leaves the remote side alone. -/
theorem EngineMove.remote {s t : State} (m : EngineMove s t) : SameRemote s t := by
  cases m with
  | report r => exact (reportResult_frame r s).remote
  | toIdle => exact (engineToIdle_frame s).remote

theorem RemoteMove.edits {s t : State} (m : RemoteMove s t) : Edits s t := by
  cases m with
  | start => exact responderStart_edits s
  | close => exact responderClose_edits s
  | rise b => exact responderRise_edits b s
  | fall => exact responderFall_edits s
  | level => exact levelSet_edits s
  | counts r => exact .of_eq rfl
  | stallEnds => exact endStall_edits _ s
  | writeWindow i disabled =>
    exact RemoteEdit.edits (.settings i (editWindow s.edit (windowOf s i)) disabled rfl rfl)
  | enableWindow i valid free =>
    exact RemoteEdit.edits (t := setWindow i { windowOf s i with enabled := true } s) (.enable i valid free)
  | disableWindow i =>
    exact RemoteEdit.edits (t := setWindow i { windowOf s i with enabled := false, hold := .open } s) (.disable i)
  | hold i h legal =>
    exact (RemoteEdit.edits (t := setWindow i { windowOf s i with hold := h } s) (.hold i h legal)).trans
      (reevaluateStall_edits _)
  | popNotify r rest head =>
    exact (RemoteEdit.edits (t := s.setHold { s.hold with queue := rest }) (.pop r rest head)).trans
      (reevaluateStall_edits _)
  | writePage n w => exact RemoteEdit.edits (.write _ _)

theorem PortMove.edits {s t : State} (m : PortMove s t) : Edits s t := by
  cases m with
  | disable => exact Edits.from (responderOff_edits _) rfl
  | stop => exact Edits.from (responderOff_edits _) rfl
  | stuck =>
    exact Edits.from (Edits.trans (responderOff_edits _) (engineStuck_frame _).remote.edits) rfl
  | _ => exact .of_eq rfl

/-- Every move edits the remote data. -/
theorem Move.edits {s t : State} (m : Move s t) : Edits s t := by
  cases m with
  | same core => exact core.remote.edits
  | request m => exact m.remote.edits
  | engine m => exact m.remote.edits
  | remote m => exact m.edits
  | port m => exact m.edits
  | softReset eq =>
    subst eq
    exact RemoteEdit.edits .softReset
  | hardReset a b c eq =>
    subst eq
    exact RemoteEdit.edits .hardReset

/-- What every edit keeps of the remote data, every step keeps. -/
theorem step_keeps_remote {I : RemoteData → Prop} (kept : ∀ {d d'}, RemoteEdit d d' → I d → I d') {s t : State}
    (h : step s = .next t) (i : I s.remote) : I t.remote :=
  step_keeps (I := fun s => I s.remote) (fun m => m.edits.keep kept) (fun _ _ h => h) h i

/-! ### Page memory (R147) -/

theorem RemoteEdit.page_wf {d d' : RemoteData} (e : RemoteEdit d d') (h : d.page.wf = true) : d'.page.wf = true := by
  cases e with
  | write a l => exact Memory.writeBytes_wf l _ a h
  | hardReset => rfl
  | _ => exact h

/-- Settles O57: only a commit and a word write change page memory, byte by byte. -/
theorem pageStaysCanonical : Obligations.PageStaysCanonical := by
  intro s t canonical next
  exact step_keeps_remote (I := fun d => d.page.wf = true) RemoteEdit.page_wf next canonical

/-! ### Notify records and reservations (R162) -/

/-- Notify records and the reservation together. -/
def RemoteData.load (d : RemoteData) : Nat := d.queue.length + (if d.reservation then 1 else 0)

theorem RemoteEdit.load_le {d d' : RemoteData} (e : RemoteEdit d d') (h : d.load ≤ 16) : d'.load ≤ 16 := by
  unfold RemoteData.load at h ⊢
  cases e with
  | reserve room =>
    simp only [if_true]
    cases taken : d.reservation with
    | true => simpa [taken] using h
    | false =>
      simp only [taken, Bool.false_eq_true, if_false] at h room
      omega
  | giveBack => simp only [Bool.false_eq_true, if_false]; omega
  | record r reserved => simpa [reserved] using h
  | pop r rest head =>
    simp only [head, List.length_cons] at h
    show rest.length + (if d.reservation then 1 else 0) ≤ 16
    omega
  | softReset => simp
  | hardReset => decide
  | _ => exact h

/-- Settles O56: a reservation is taken only below 16, and a record takes the place of its reservation. -/
theorem notifyStaysWithinSixteen : Obligations.NotifyStaysWithinSixteen := by
  intro s t fits next
  exact step_keeps_remote (I := fun d => d.load ≤ 16) RemoteEdit.load_le next fits

/-! ### Windows (R128) -/

/-- What `WindowsDistinct` says, of the windows alone. -/
def DistinctWindows (v : Vector Window 8) : Prop :=
  (∀ i, (tget v i).enabled = true → windowSettingsValid (tget v i) = true) ∧
    ∀ i j, (tget v i).enabled = true → (tget v j).enabled = true → (tget v i).node = (tget v j).node → i = j

/-- The settings of an enabled window, and no more windows enabled. -/
theorem DistinctWindows.of_kept {v v' : Vector Window 8} (h : DistinctWindows v)
    (kept : ∀ i, (tget v' i).enabled = true → (tget v i).enabled = true ∧ (tget v' i).node = (tget v i).node ∧
      windowSettingsValid (tget v' i) = windowSettingsValid (tget v i)) : DistinctWindows v' := by
  obtain ⟨valid, distinct⟩ := h
  constructor
  · intro i on
    obtain ⟨was, -, same⟩ := kept i on
    rw [same]
    exact valid i was
  · intro i j onI onJ eq
    obtain ⟨wasI, nodeI, -⟩ := kept i onI
    obtain ⟨wasJ, nodeJ, -⟩ := kept j onJ
    exact distinct i j wasI wasJ (by rw [← nodeI, ← nodeJ, eq])

/-- One window is changed: the others are kept, and it is kept in what `DistinctWindows` reads. -/
theorem DistinctWindows.of_edit {v : Vector Window 8} (h : DistinctWindows v) (i : Fin 8) {w : Window}
    (kept : w.enabled = true → (tget v i).enabled = true ∧ w.node = (tget v i).node ∧
      windowSettingsValid w = windowSettingsValid (tget v i)) : DistinctWindows (tset v i w) := by
  refine h.of_kept fun j on => ?_
  rw [tget_tset] at on ⊢
  split at on
  · rename_i same
    simpa [same] using kept on
  · rename_i other
    simp [other, on]

theorem Window.frameEnd_settings (w : Window) :
    w.frameEnd.enabled = w.enabled ∧ w.frameEnd.node = w.node ∧ windowSettingsValid w.frameEnd = windowSettingsValid w := by
  unfold Window.frameEnd
  split <;> exact ⟨rfl, rfl, rfl⟩

theorem DistinctWindows.enable {v : Vector Window 8} (h : DistinctWindows v) {i : Fin 8}
    (settings : windowSettingsValid (tget v i) = true)
    (free : tfind (fun w => w.enabled && w.node == (tget v i).node) v = none) :
    DistinctWindows (tset v i { tget v i with enabled := true }) := by
  obtain ⟨valid, distinct⟩ := h
  have unused (j : Fin 8) (on : (tget v j).enabled = true) : (tget v j).node ≠ (tget v i).node := by
    simpa [on] using tfind_eq_none.mp free j
  constructor
  · intro j on
    rw [tget_tset] at on ⊢
    split
    · exact settings
    · rename_i other
      exact valid j (by simpa [other] using on)
  · intro j k onJ onK eq
    rw [tget_tset] at onJ onK
    rw [tget_tset, tget_tset] at eq
    split at onJ <;> split at onK
    · simp_all
    · rename_i same other
      exact absurd (by simpa [same, other] using eq.symm) (unused k onK)
    · rename_i other same
      exact absurd (by simpa [same, other] using eq) (unused j onJ)
    · rename_i otherJ otherK
      exact distinct j k onJ onK (by simpa [otherJ, otherK] using eq)

theorem RemoteEdit.windows_distinct {d d' : RemoteData} (e : RemoteEdit d d') (h : DistinctWindows d.windows) :
    DistinctWindows d'.windows := by
  cases e with
  | frameEnd i =>
    obtain ⟨enabled, node, valid⟩ := Window.frameEnd_settings (tget d.windows i)
    exact h.of_edit i fun on => ⟨enabled ▸ on, node, valid⟩
  | framesEnd =>
    refine h.of_kept fun i on => ?_
    rw [tget_tmap] at on ⊢
    obtain ⟨enabled, node, valid⟩ := Window.frameEnd_settings (tget d.windows i)
    exact ⟨enabled ▸ on, node, valid⟩
  | frameBegin i => exact h.of_edit i fun on => ⟨on, rfl, rfl⟩
  | settings i w disabled => exact h.of_edit i fun on => by simp [disabled] at on
  | enable i valid free => exact h.enable valid free
  | disable i => exact h.of_edit i fun on => by simp at on
  | hold i h' legal => exact h.of_edit i fun on => ⟨on, rfl, rfl⟩
  | softReset =>
    refine h.of_kept fun i on => ?_
    rw [tget_tmap] at on ⊢
    exact ⟨on, rfl, rfl⟩
  | hardReset =>
    refine ⟨fun i on => ?_, fun i j on => ?_⟩ <;> simp [State.remote, State.reset, Window.reset] at on
  | _ => exact h

theorem step_keeps_windowsDistinct (s t : State) (h : WindowsDistinct s) (next : step s = .next t) : WindowsDistinct t :=
  step_keeps_remote (I := fun d => DistinctWindows d.windows) RemoteEdit.windows_distinct next h

/-! ### Holds (R150) -/

/-- A window is PENDING only in-frame, and HELD only outside a frame (R150). -/
def Window.holdLegal (w : Window) : Prop := (w.hold = .pending → w.inFrame = true) ∧ (w.hold = .held → w.inFrame = false)

theorem Window.frameEnd_holdLegal {w : Window} (h : w.holdLegal) : w.frameEnd.holdLegal := by
  unfold Window.frameEnd
  split
  · unfold Window.holdLegal
    dsimp only
    split
    · simp
    · rename_i notPending
      exact ⟨fun pending => absurd pending notPending, fun _ => rfl⟩
  · exact h

theorem RemoteEdit.holds_legal {d d' : RemoteData} (e : RemoteEdit d d') (h : ∀ i, (tget d.windows i).holdLegal) :
    ∀ i, (tget d'.windows i).holdLegal := by
  have edit (i : Fin 8) {w : Window} (legal : w.holdLegal) : ∀ j, (tget (tset d.windows i w) j).holdLegal := by
    intro j
    rw [tget_tset]
    split
    · exact legal
    · exact h j
  cases e with
  | frameEnd i => exact edit i (Window.frameEnd_holdLegal (h i))
  | framesEnd => intro i; rw [tget_tmap]; exact Window.frameEnd_holdLegal (h i)
  | frameBegin i notHeld => exact edit i ⟨fun _ => rfl, fun held => absurd held notHeld⟩
  | settings i w _ hold inFrame => exact edit i (by unfold Window.holdLegal; rw [hold, inFrame]; exact h i)
  | enable i => exact edit i (h i)
  | disable i => exact edit i ⟨by simp, by simp⟩
  | hold i h' legal => exact edit i legal
  | softReset => intro i; rw [tget_tmap]; exact ⟨by simp [Window.softReset], by simp [Window.softReset]⟩
  | hardReset => intro i; simp [State.remote, State.reset, Window.reset, Window.holdLegal]
  | _ => exact h

theorem step_keeps_holdsLegal (s t : State) (h : HoldsLegal s) (next : step s = .next t) : HoldsLegal t :=
  step_keeps_remote (I := fun d => ∀ i, (tget d.windows i).holdLegal) RemoteEdit.holds_legal next h

end Sys2Proof.Machine

/-! A window in-frame belongs to the frame that the Responder answers (R146), and what the port state means to the blocks that read it (R172). -/

namespace Sys2Proof.Machine

/-! ### Windows in-frame -/

/-- No window is in-frame. -/
def NoneInFrame (s : State) : Prop := ∀ i, (windowOf s i).inFrame = false

/-- Only the window of the frame in progress is in-frame. -/
def OnlyOwnInFrame (s : State) : Prop := ∀ i, (windowOf s i).inFrame = true → s.responder.window = some i

theorem NoneInFrame.of_windows {s t : State} (h : NoneInFrame s) (same : t.windows = s.windows) : NoneInFrame t := by
  intro i
  rw [windowOf, same]
  exact h i

theorem OnlyOwnInFrame.of_windows {s t : State} (h : OnlyOwnInFrame s) (same : t.windows = s.windows)
    (window : t.responder.window = s.responder.window) : OnlyOwnInFrame t := by
  intro i inFrame
  rw [windowOf, same] at inFrame
  rw [window]
  exact h i inFrame

/-- A window that is not the own one is not in-frame. -/
theorem OnlyOwnInFrame.other {s : State} (h : OnlyOwnInFrame s) {i : Fin 8} (other : s.responder.window ≠ some i) :
    (windowOf s i).inFrame = false :=
  Bool.eq_false_iff.mpr fun inFrame => other (h i inFrame)

/-- The Responder is past PROCEED and before the end of a frame that it answers. -/
def Responder.answering (r : Responder) : Prop :=
  (∃ n, r.pos = .within n) ∧ ((r.st = .claiming ∧ r.code = .proceed) ∨ r.st = .sending ∨ r.st = .receiving ∨ r.st = .confirming)

theorem FrameHeld.answering {s : State} (h : FrameHeld s) {i : Fin 8} (inFrame : (windowOf s i).inFrame = true) :
    s.responder.answering := (h.1 i inFrame).2

theorem FrameHeld.own {s : State} (h : FrameHeld s) : OnlyOwnInFrame s := fun i inFrame => (h.1 i inFrame).1

/-- A Responder that is not answering has no window in-frame. -/
theorem FrameHeld.none {s : State} (h : FrameHeld s) (idle : ¬ s.responder.answering) : NoneInFrame s :=
  fun _ => Bool.eq_false_iff.mpr fun inFrame => idle (h.answering inFrame)

theorem FrameHeld.none_of_st {s : State} (h : FrameHeld s) {st : ResponderState} (is : s.responder.st = st)
    (idle : st ≠ .claiming ∧ st ≠ .sending ∧ st ≠ .receiving ∧ st ≠ .confirming) : NoneInFrame s := by
  refine h.none ?_
  rintro ⟨-, answers⟩
  simp [is, idle] at answers

/-- With no window in-frame and no stall there is nothing to keep. -/
theorem NoneInFrame.held {s : State} (h : NoneInFrame s) (noStall : s.responder.st ≠ .stalling) : FrameHeld s :=
  ⟨fun i inFrame => by simp [h i] at inFrame, fun stalling => absurd stalling noStall⟩

/-- Only the own window is in-frame, and the Responder answers. -/
theorem OnlyOwnInFrame.held {s : State} (h : OnlyOwnInFrame s) (answers : s.responder.answering) : FrameHeld s := by
  refine ⟨fun i inFrame => ⟨h i inFrame, answers⟩, fun stalling => ?_⟩
  obtain ⟨-, st⟩ := answers
  simp [stalling] at st

/-- The windows' frames, the Responder's place in its frame and the stall stay. -/
theorem FrameHeld.of_same {s t : State} (h : FrameHeld s) (windows : ∀ i, (windowOf t i).inFrame = (windowOf s i).inFrame)
    (st : t.responder.st = s.responder.st) (window : t.responder.window = s.responder.window)
    (code : t.responder.code = s.responder.code) (stall : t.hold.stallWindow = s.hold.stallWindow)
    (pos : ∀ n, s.responder.pos = .within n → ∃ m, t.responder.pos = .within m) : FrameHeld t := by
  constructor
  · intro i inFrame
    rw [windows] at inFrame
    obtain ⟨own, ⟨n, within⟩, answers⟩ := h.1 i inFrame
    rw [st, code, window]
    exact ⟨own, pos n within, answers⟩
  · intro stalling
    obtain ⟨own, n, within⟩ := h.2 (st ▸ stalling)
    rw [stall, window]
    exact ⟨own, pos n within⟩

theorem windowOf_setWindow (i j : Fin 8) (w : Window) (s : State) :
    windowOf (setWindow i w s) j = if j = i then w else windowOf s j := tget_tset s.windows i j w

theorem Window.frameEnd_inFrame (w : Window) : w.frameEnd.inFrame = false := by
  unfold Window.frameEnd
  split
  · rfl
  · rename_i outside
    simpa using outside

/-- The windows after one window's frame has ended (R146). -/
theorem windowOf_endWindowFrame (i j : Fin 8) (s : State) :
    windowOf (endWindowFrame i s) j = if j = i then (windowOf s i).frameEnd else windowOf s j := by
  rw [← windowOf_setWindow]
  unfold endWindowFrame
  dsimp only
  split <;> rfl

theorem endWindowFrame_responder (i : Fin 8) (s : State) : (endWindowFrame i s).responder = s.responder := by
  unfold endWindowFrame
  dsimp only
  split <;> rfl

theorem endWindowFrame_hold (i : Fin 8) (s : State) : (endWindowFrame i s).hold = s.hold := by
  unfold endWindowFrame
  dsimp only
  split <;> rfl

/-- The end of the own window's frame leaves none in-frame. -/
theorem OnlyOwnInFrame.ended {s : State} (h : OnlyOwnInFrame s) {i : Fin 8} (own : s.responder.window = some i) :
    NoneInFrame (endWindowFrame i s) := by
  intro j
  rw [windowOf_endWindowFrame]
  split
  · exact Window.frameEnd_inFrame _
  · rename_i other
    refine h.other fun own' => other ?_
    rw [own, Option.some.injEq] at own'
    exact own'.symm

theorem giveUpFrame_none (s : State) : NoneInFrame (giveUpFrame s) := by
  intro i
  have ended : windowOf (giveUpFrame s) i = (windowOf s i).frameEnd := by
    unfold giveUpFrame endAllFrames
    dsimp only
    split <;> exact tget_tmap _ _ i
  rw [ended, Window.frameEnd_inFrame]

theorem responderOff_held (s : State) : FrameHeld (responderOff s) :=
  NoneInFrame.held (giveUpFrame_none s) (by simp [responderOff])

/-- After a break no window is in-frame, whether or not a bit was expected (R144). -/
theorem FrameHeld.broken {s : State} (h : FrameHeld s) : NoneInFrame (breakFrame s) := by
  unfold breakFrame
  split
  · exact giveUpFrame_none s
  · rename_i outside
    refine h.none ?_
    rintro ⟨⟨n, within⟩, -⟩
    simp [midFrame, within] at outside

/-- A frame whose window is still in-frame is dropped (log 35). -/
theorem OnlyOwnInFrame.dropped {s : State} (h : OnlyOwnInFrame s) : NoneInFrame (dropFrame s) := by
  unfold dropFrame
  split
  · rename_i noWindow
    exact fun i => h.other (by simp [noWindow])
  · rename_i i own
    split
    · refine OnlyOwnInFrame.ended ?_ ?_
      · exact h
      · exact own
    · rename_i outside
      intro j
      by_cases same : j = i
      · simpa [same] using outside
      · exact h.other (by simpa [own] using Ne.symm same)

/-! ### What the Responder does at a bit -/

/-- A frame that begins puts its window in-frame, and no other (R139, R141). -/
theorem windowOf_beginFrame (i j : Fin 8) (s : State) :
    (windowOf (beginFrame i s) j).inFrame = true → j = i ∨ (windowOf s j).inFrame = true := by
  have begun (t : State) (windows : t.windows = s.windows) (w : Window) :
      (windowOf (setWindow i w t) j).inFrame = true → j = i ∨ (windowOf s j).inFrame = true := by
    intro inFrame
    rw [windowOf_setWindow] at inFrame
    split at inFrame
    · left; assumption
    · rw [windowOf, windows] at inFrame
      exact .inr inFrame
  unfold beginFrame
  split
  · exact begun _ rfl _
  · exact begun _ rfl _
  · exact .inr

theorem beginFrame_responder (i : Fin 8) (s : State) :
    (beginFrame i s).responder.st = s.responder.st ∧ (beginFrame i s).responder.pos = s.responder.pos ∧
      (beginFrame i s).responder.window = s.responder.window := by
  unfold beginFrame
  split <;> exact ⟨rfl, rfl, rfl⟩

/-- A frame that begins in the claim, at PROCEED (R136, R158). -/
theorem NoneInFrame.begun {s t : State} (h : NoneInFrame s) {i : Fin 8} (own : s.responder.window = some i)
    (within : ∃ n, s.responder.pos = .within n) (windows : t.windows = (beginFrame i s).windows)
    (claims : t.responder.st = .claiming ∧ t.responder.code = .proceed) (pos : t.responder.pos = s.responder.pos)
    (window : t.responder.window = s.responder.window) : FrameHeld t := by
  have only : OnlyOwnInFrame t := by
    intro j inFrame
    rw [windowOf, windows] at inFrame
    rcases windowOf_beginFrame i j s inFrame with same | was
    · rw [window, own, same]
    · simp [h j] at was
  exact only.held ⟨pos ▸ within, .inl claims⟩

theorem applyDecision_held {s : State} (h : NoneInFrame s) (i : Fin 8) (within : ∃ n, s.responder.pos = .within n) :
    FrameHeld (applyDecision i s) := by
  unfold applyDecision
  dsimp only
  split
  · exact NoneInFrame.held h (by simp [enterClaiming])
  · obtain ⟨-, pos, window⟩ := beginFrame_responder i (s.setResponder { s.responder with window := some i })
    exact NoneInFrame.begun (s := s.setResponder { s.responder with window := some i }) h rfl within rfl ⟨rfl, rfl⟩ pos
      window
  · exact NoneInFrame.held h (by simp [enterClaiming])
  · refine ⟨fun j inFrame => ?_, fun _ => ⟨rfl, within⟩⟩
    have none : (windowOf s j).inFrame = true := inFrame
    simp [h j] at none

theorem clashCheck_rest (s : State) : (clashCheck s).windows = s.windows ∧ (clashCheck s).responder = s.responder := by
  unfold clashCheck
  split <;> exact ⟨rfl, rfl⟩

theorem decideClaim_held {s : State} (h : NoneInFrame s) (within : ∃ n, s.responder.pos = .within n) :
    FrameHeld (decideClaim s) := by
  obtain ⟨windows, responder⟩ := clashCheck_rest s
  unfold decideClaim
  dsimp only
  split
  · exact NoneInFrame.held h (by simp [enterPassive])
  split
  · refine NoneInFrame.held (h.of_windows ?_) (by simp [enterPassive])
    exact windows
  · exact applyDecision_held (h.of_windows windows) _ (by rw [responder]; exact within)

theorem decodingBit_held {s : State} (h : NoneInFrame s) (st : s.responder.st = .decoding)
    (within : ∃ n, s.responder.pos = .within n) (p : Nat) (b : Bool) : FrameHeld (decodingBit p b s) := by
  unfold decodingBit
  dsimp only
  split
  · refine decideClaim_held (h.of_windows ?_) ?_
    · rfl
    · exact within
  · exact NoneInFrame.held h (by simp [st])

theorem passiveBit_held {s : State} (h : NoneInFrame s) (st : s.responder.st = .passive) (p : Nat) (b : Bool) :
    FrameHeld (passiveBit p b s) := by
  unfold passiveBit
  dsimp only
  split
  · exact NoneInFrame.held h (by simp [st])
  split <;> split
  · exact NoneInFrame.held h (by simp [st])
  · exact NoneInFrame.held h (by simp [frameOver])
  · exact NoneInFrame.held h (by simp [frameOver])
  · exact h.held (by simp [st])

theorem claimTaken_held {s : State} (h : OnlyOwnInFrame s) (within : ∃ n, s.responder.pos = .within n)
    (proceeds : s.responder.code ≠ .proceed → NoneInFrame s) (c : ClaimCode) : FrameHeld (claimTaken c s) := by
  unfold claimTaken
  dsimp only
  split
  · split
    · split
      · exact OnlyOwnInFrame.held h ⟨within, .inr (.inl rfl)⟩
      · exact OnlyOwnInFrame.held h ⟨within, .inr (.inr (.inl rfl))⟩
    · rename_i other
      exact NoneInFrame.held (proceeds other) (by simp [enterPassive])
  · refine NoneInFrame.held (OnlyOwnInFrame.dropped ?_) (by simp [frameOver])
    exact h

theorem sendingBit_held {s : State} (h : OnlyOwnInFrame s) (within : ∃ n, s.responder.pos = .within n)
    (st : s.responder.st = .sending) (p : Nat) (b : Bool) : FrameHeld (sendingBit p b s) := by
  unfold sendingBit
  dsimp only
  split <;> split
  all_goals first
    | exact OnlyOwnInFrame.held h ⟨within, .inr (.inr (.inr rfl))⟩
    | exact OnlyOwnInFrame.held h ⟨within, .inr (.inl st)⟩

theorem discardWrite_held {s : State} (h : OnlyOwnInFrame s) (noStall : s.responder.st ≠ .stalling) :
    FrameHeld (discardWrite s) := by
  unfold discardWrite
  dsimp only
  split
  · rename_i noWindow
    refine NoneInFrame.held (fun i => ?_) noStall
    have outside : (windowOf s i).inFrame = false := h.other fun own => by
      have noOwn : s.responder.window = none := noWindow
      simp [noOwn] at own
    exact outside
  · rename_i i own
    refine NoneInFrame.held (OnlyOwnInFrame.ended ?_ ?_) ?_
    · exact h
    · exact own
    · rw [endWindowFrame_responder]
      exact noStall

theorem receivingBit_held {s : State} (h : OnlyOwnInFrame s) (within : ∃ n, s.responder.pos = .within n)
    (st : s.responder.st = .receiving) (p : Nat) (b : Bool) : FrameHeld (receivingBit p b s) := by
  have goesOn (t : State) (windows : t.windows = s.windows) (window : t.responder.window = s.responder.window)
      (pos : t.responder.pos = s.responder.pos) (st : t.responder.st = .receiving ∨ t.responder.st = .confirming) :
      FrameHeld t := by
    exact (h.of_windows windows window).held ⟨pos ▸ within, .inr (.inr st)⟩
  unfold receivingBit
  dsimp only
  split
  · exact goesOn _ rfl rfl rfl (.inl st)
  split
  · split
    · exact goesOn _ rfl rfl rfl (.inr rfl)
    · refine discardWrite_held ?_ (by simp)
      exact h
  · exact goesOn _ rfl rfl rfl (.inl st)

theorem confirmingBit_held {s : State} (h : OnlyOwnInFrame s) (within : ∃ n, s.responder.pos = .within n)
    (st : s.responder.st = .confirming) : FrameHeld (confirmingBit s) := by
  unfold confirmingBit
  split
  · rename_i i _ own
    exact NoneInFrame.held (h.ended own) (by simp [endWindowFrame_responder, st])
  · exact h.held ⟨within, .inr (.inr (.inr st))⟩

theorem responderRise_held {s : State} (h : FrameHeld s) (b : Bool) : FrameHeld (responderRise b s) := by
  unfold responderRise
  dsimp only
  split
  case h_1 => exact h
  case h_2 boundary =>
    exact h.of_same (fun _ => rfl) rfl rfl rfl rfl fun n within => by simp [boundary] at within
  case h_3 n within =>
    have moved (m : Nat) : FrameHeld (s.setResponder { s.responder with pos := .within m }) :=
      h.of_same (fun _ => rfl) rfl rfl rfl rfl fun _ _ => ⟨m, rfl⟩
    have idle {st : ResponderState} (is : s.responder.st = st)
        (idle : st ≠ .claiming ∧ st ≠ .sending ∧ st ≠ .receiving ∧ st ≠ .confirming) :
        NoneInFrame (s.setResponder { s.responder with pos := .within (n + 1) }) :=
      (moved (n + 1)).none_of_st is idle
    have own := (moved (n + 1)).own
    split
    case h_1 st => exact decodingBit_held (idle st (by decide)) st ⟨_, rfl⟩ _ _
    case h_2 st => exact passiveBit_held (idle st (by decide)) st _ _
    case h_3 st =>
      split
      · exact (moved (n + 1)).of_same (fun _ => rfl) rfl rfl rfl rfl fun m same => ⟨m, same⟩
      · refine claimTaken_held own ⟨_, rfl⟩ (fun other => (moved (n + 1)).none ?_) _
        rintro ⟨-, proceeds | sending | receiving | confirming⟩
        · exact other proceeds.2
        all_goals simp_all
    case h_4 st => exact sendingBit_held own ⟨_, rfl⟩ st _ _
    case h_5 st => exact receivingBit_held own ⟨_, rfl⟩ st _ _
    case h_6 st => exact confirmingBit_held own ⟨_, rfl⟩ st
    all_goals exact moved (n + 1)

theorem responderFall_held {s : State} (h : FrameHeld s) : FrameHeld (responderFall s) := by
  unfold responderFall
  dsimp only
  split
  case h_1 => exact h
  case h_2 => exact h.of_same (fun _ => rfl) rfl rfl rfl rfl fun n within => ⟨n, within⟩
  case h_3 =>
    split
    · exact NoneInFrame.held h.own.dropped (by simp [responseOver])
    · exact h.of_same (fun _ => rfl) rfl rfl rfl rfl fun n within => ⟨n, within⟩
  all_goals exact h.of_same (fun _ => rfl) rfl rfl rfl rfl fun n within => ⟨n, by simp [within]⟩

/-! ### Counts and stalls -/

theorem commitWrite_rest (i : Fin 8) (s : State) :
    (commitWrite i s).responder.st = s.responder.st ∧ (commitWrite i s).responder.pos = s.responder.pos ∧
      (commitWrite i s).responder.window = s.responder.window ∧ (commitWrite i s).responder.code = s.responder.code ∧
      (commitWrite i s).hold.stallWindow = s.hold.stallWindow := by
  unfold commitWrite
  dsimp only
  rw [endWindowFrame_responder, endWindowFrame_hold]
  split <;> exact ⟨rfl, rfl, rfl, rfl, rfl⟩

theorem commitWrite_none {s : State} (h : OnlyOwnInFrame s) {i : Fin 8} (own : s.responder.window = some i) :
    NoneInFrame (commitWrite i s) := by
  unfold commitWrite
  dsimp only
  refine OnlyOwnInFrame.ended ?_ ?_
  · split <;> exact h
  · split <;> exact own

theorem commitNow_held {s : State} (h : FrameHeld s) : FrameHeld (commitNow s) := by
  unfold commitNow
  split
  · rename_i i own
    split
    · have none := commitWrite_none h.own own
      obtain ⟨st, pos, window, code, stall⟩ := commitWrite_rest i s
      refine ⟨fun j inFrame => by simp [none j] at inFrame, fun stalling => ?_⟩
      rw [stall, window, pos]
      exact h.2 (st ▸ stalling)
    · exact h
  · exact h

theorem levelSet_held {s : State} (h : FrameHeld s) : FrameHeld (levelSet s) :=
  (commitNow_held h).of_same (fun _ => rfl) rfl rfl rfl rfl fun n within => ⟨n, within⟩

/-- What the end of a stall leaves (R158, R159). -/
theorem endStall_rest (c : ClaimCode) (s : State) :
    (endStall c s).windows = s.windows ∧ (endStall c s).responder.st = .claiming ∧ (endStall c s).responder.code = c ∧
      (endStall c s).responder.pos = s.responder.pos ∧ (endStall c s).responder.window = s.responder.window := by
  unfold endStall
  dsimp only
  split <;> exact ⟨rfl, rfl, rfl, rfl, rfl⟩

theorem stallExpires_held {s : State} (h : FrameHeld s) (due : stallDue s = true) : FrameHeld (endStall .busy s) := by
  have stalling : s.responder.st = .stalling := by
    simp only [stallDue, Bool.and_eq_true, beq_iff_eq] at due
    exact due.1
  obtain ⟨windows, st, -⟩ := endStall_rest .busy s
  refine NoneInFrame.held (fun i => ?_) (by simp [st])
  rw [windowOf, windows]
  exact h.none_of_st stalling (by decide) i

theorem reevaluateStall_held {s : State} (h : FrameHeld s) : FrameHeld (reevaluateStall s) := by
  unfold reevaluateStall
  split
  · rename_i stalling
    have none := h.none_of_st stalling (by decide)
    obtain ⟨own, within⟩ := h.2 stalling
    split
    · exact h
    · rename_i i stalled
      split
      · exact h.of_same (fun _ => rfl) rfl rfl rfl rfl fun n at_ => ⟨n, at_⟩
      · obtain ⟨-, pos, window⟩ := beginFrame_responder i s
        obtain ⟨windows, st, code, pos', window'⟩ := endStall_rest .proceed (beginFrame i s)
        exact none.begun (own.symm.trans stalled) within windows ⟨st, code⟩ (pos'.trans pos) (window'.trans window)
  · exact h

/-! ### Every move -/

theorem setWindow_held {s : State} (h : FrameHeld s) (i : Fin 8) {w : Window} (same : w.inFrame = (windowOf s i).inFrame) :
    FrameHeld (setWindow i w s) := by
  refine h.of_same (fun j => ?_) rfl rfl rfl rfl fun n within => ⟨n, within⟩
  rw [windowOf_setWindow]
  split
  · rename_i eq
    rw [same, eq]
  · rfl

theorem RemoteMove.frameHeld {s t : State} (m : RemoteMove s t) (h : FrameHeld s) : FrameHeld t := by
  cases m with
  | start =>
    unfold responderStart
    split
    · exact h
    · exact NoneInFrame.held h.broken (by simp)
  | close =>
    unfold responderClose
    split
    · exact h
    · exact NoneInFrame.held h.broken (by simp [responderListen])
  | rise b => exact responderRise_held h b
  | fall => exact responderFall_held h
  | level => exact levelSet_held h
  | counts r goesOn =>
    exact h.of_same (fun _ => rfl) goesOn.st goesOn.window goesOn.code rfl fun n within => ⟨n, goesOn.pos.trans within⟩
  | stallEnds due => exact stallExpires_held h due
  | writeWindow i => exact setWindow_held h i rfl
  | enableWindow i => exact setWindow_held h i rfl
  | disableWindow i => exact setWindow_held h i rfl
  | hold i h' => exact reevaluateStall_held (setWindow_held h i rfl)
  | popNotify r rest =>
    exact reevaluateStall_held (h.of_same (fun _ => rfl) rfl rfl rfl rfl fun n within => ⟨n, within⟩)
  | writePage n w => exact h.of_same (fun _ => rfl) rfl rfl rfl rfl fun n within => ⟨n, within⟩

/-- A Responder that is OFF has no window in-frame. -/
theorem FrameHeld.none_of_off {s : State} (h : FrameHeld s) (off : s.responder.st = .off) : NoneInFrame s :=
  h.none_of_st off (by decide)

theorem SameRemote.frameHeld {s t : State} (same : SameRemote s t) (h : FrameHeld s) : FrameHeld t := by
  refine h.of_same (fun i => by rw [windowOf, same.windows]; rfl) ?_ ?_ ?_ same.stallWindow fun n within => ⟨n, ?_⟩
  all_goals rw [same.responder]
  exact within

theorem PortMove.frameHeld {s t : State} (m : PortMove s t) (p : PortConsistent s) (h : FrameHeld s) : FrameHeld t := by
  obtain ⟨-, ⟨off, -⟩, recovering, -⟩ := p
  cases m with
  | enable disabled => exact NoneInFrame.held (h.none_of_off (off.mpr (by simp [disabled]))) (by simp [portRunning, responderListen])
  | disable => exact responderOff_held _
  | stop => exact responderOff_held _
  | succeed running =>
    have notRunning : s.port.state ≠ .running := by simp [recovering.mp running]
    exact NoneInFrame.held (h.none_of_off (off.mpr notRunning)) (by simp [portRunning, responderListen])
  | stuck => exact (engineStuck_frame _).remote.frameHeld (responderOff_held _)
  | _ => exact h

theorem Move.frameHeld {s t : State} (m : Move s t) (p : PortConsistent s) (h : FrameHeld s) : FrameHeld t := by
  cases m with
  | same core => exact core.remote.frameHeld h
  | request m => exact m.remote.frameHeld h
  | engine m => exact m.remote.frameHeld h
  | remote m => exact m.frameHeld h
  | port m => exact m.frameHeld p h
  | softReset eq =>
    subst eq
    exact NoneInFrame.held (fun i => by simp [Window.softReset]) (by simp [Responder.reset])
  | hardReset a b c eq =>
    subst eq
    exact NoneInFrame.held (fun i => by simp [Window.reset]) (by simp [Machine.hardReset, State.reset, Responder.reset])

end Sys2Proof.Machine

/-! What the port state means to the engine, the Responder and the recovery sequence (R172) is kept by every move. -/

namespace Sys2Proof.Machine

/-! ### The engine is left alone -/

theorem setEvent_engine (e : Event) (s : State) : (setEvent e s).engine = s.engine := rfl
theorem setSlot_engine (k : Fin 32) (x : Slot) (s : State) : (setSlot k x s).engine = s.engine := rfl
theorem complete_engine (k : Fin 32) (o : RequestOutcome) (b : Bool) (s : State) : (complete k o b s).engine = s.engine := rfl
theorem returnWaiting_engine (k : Fin 32) (s : State) : (returnWaiting k s).engine = s.engine := rfl

theorem returnOrExpire_engine (k : Fin 32) (s : State) : (returnOrExpire k s).engine = s.engine := by
  unfold returnOrExpire
  split <;> rfl

theorem attemptEnd_engine (k : Fin 32) (r : FrameResult) (won : Bool) (s : State) :
    (attemptEnd k r won s).engine = s.engine := by
  unfold attemptEnd
  split
  · unfold arbLostEnd
    dsimp only
    split
    · exact (complete_engine _ _ _ _).trans (setSlot_engine _ _ s)
    · exact (returnOrExpire_engine _ _).trans (setSlot_engine _ _ s)
  · unfold tableEnd
    dsimp only
    split; · exact complete_engine _ _ _ s
    split; · exact complete_engine _ _ _ s
    split
    · split
      · exact (returnOrExpire_engine _ _).trans (setSlot_engine _ _ s)
      · exact returnOrExpire_engine _ s
    split; · exact complete_engine _ _ _ s
    split; · exact complete_engine _ _ _ s
    split
    · exact returnOrExpire_engine _ s
    · exact complete_engine _ _ _ s

theorem completeAll_engine (l : List (Fin 32)) : ∀ s, (completeAll l s).engine = s.engine := by
  induction l with
  | nil => intro s; rfl
  | cons k rest ih => intro s; exact (ih _).trans (complete_engine _ _ _ s)

theorem endAttempt_engine (k : Fin 32) (r : FrameResult) (a : Byte) (b : Bool) (s : State) :
    (endAttempt k r a b s).engine = s.engine := by
  unfold endAttempt
  dsimp only
  split
  · exact (completeAll_engine _ _).trans (attemptEnd_engine _ _ _ s)
  · exact attemptEnd_engine _ _ _ s

theorem nodeResult_engine (r : FrameResult) (a : Byte) (s : State) : (nodeResult r a s).engine = s.engine := by
  unfold nodeResult
  dsimp only
  split <;> rfl

theorem resultTaken_engine (r : FrameResult) (k : Fin 32) (f : Frame) (s : State) :
    (resultTaken r k f s).engine = s.engine := by
  unfold resultTaken
  rw [nodeResult_engine]
  split <;> rfl

theorem resultTaken_frame (r : FrameResult) (k : Fin 32) (f : Frame) (s : State) : RequestFrame s (resultTaken r k f s) := by
  unfold resultTaken
  refine RequestFrame.trans ?_ (nodeResult_frame _ _ _)
  split
  · exact acceptFrame_frame _ _ _ _
  · exact RequestFrame.refl s

/-- A frame result either puts the engine in LINKING for the next frame, or sends it where its result says, on a state with the same engine and port (R93). -/
theorem reportResult_ends (r : FrameResult) (s : State) :
    (∃ k f u, Runs s k f ∧ r = .accepted ∧ u.engine = s.engine ∧ u.port = s.port ∧ reportResult r s = linkNext k u) ∨
      ∃ u, u.engine = s.engine ∧ u.port = s.port ∧ reportResult r s = engineAfter r u := by
  by_cases run : ∃ k f, Runs s k f
  · obtain ⟨k, f, runs⟩ := run
    have engine := resultTaken_engine r k f s
    have port := (resultTaken_frame r k f s).port
    rw [reportResult_frame_run runs]
    split
    · rename_i links
      exact .inl ⟨k, f, _, runs, links.1, engine, port, rfl⟩
    · exact .inr ⟨_, (endAttempt_engine _ _ _ _ _).trans engine, (endAttempt_frame _ _ _ _ _).port.trans port, rfl⟩
  · exact .inr ⟨s, rfl, rfl, reportResult_no_frame fun k f runs => run ⟨k, f, runs⟩⟩

/-- A choice leaves the engine alone, or puts an idle one of a RUNNING port in ARBITRATING (R47, R79). -/
theorem chooseRounds_engine (n : Nat) : ∀ s,
    (chooseRounds n s).engine = s.engine ∨
      ((chooseRounds n s).engine.st = .arbitrating ∧ s.engine.st = .idle ∧ s.port.state = .running) := by
  induction n with
  | zero => exact fun s => .inl rfl
  | succ n ih =>
    intro s
    unfold chooseRounds
    split
    · rename_i opened
      simp only [choiceOpen, Bool.and_eq_true, beq_iff_eq] at opened
      obtain ⟨⟨idle, running⟩, -⟩ := opened
      split
      · exact .inl rfl
      split
      · exact .inl rfl
      split
      · rename_i k _ _
        rcases ih (complete k .localTarget false s) with same | ⟨st, -, -⟩
        · exact .inl same
        · exact .inr ⟨st, idle, running⟩
      · exact .inr ⟨rfl, idle, running⟩
    · exact .inl rfl

/-- What the engine and the port are when a result sends the engine to IDLE (R93, R98). -/
theorem reportResult_busStuck (s : State) :
    ∃ u, u.engine = s.engine ∧ u.port = s.port ∧ reportResult .busStuck s = engineToIdle u := by
  rcases reportResult_ends .busStuck s with ⟨k, f, u, -, accepted, -⟩ | ends
  · cases accepted
  · exact ends

/-! ### The engine and the port -/

theorem PortHoldsEngine.of_same {s t : State} (h : PortHoldsEngine s) (engine : t.engine = s.engine)
    (port : t.port.state = s.port.state) : PortHoldsEngine t := by
  unfold PortHoldsEngine
  rw [engine, port]
  exact h

/-- An engine that is not idle has a port that lets it run. -/
theorem PortHoldsEngine.busy {s t : State} (h : PortHoldsEngine s) (busy : s.engine ≠ s.engine.idled)
    (port : t.port = s.port) (st : t.engine.st ≠ .idle) : PortHoldsEngine t := by
  obtain ⟨idled, closed, -⟩ := h
  refine ⟨fun idle => absurd idle st, fun off => ?_, fun _ => st⟩
  rw [port] at off
  exact absurd (idled (closed off)) busy

/-- The engine's entry into IDLE, with the end of a stop (R175). -/
theorem engineToIdle_port (s : State) :
    (engineToIdle s).port.state = if s.port.state = .stopping then .disabled else s.port.state := by
  unfold engineToIdle
  dsimp only
  split
  · rename_i stopping
    have stops : s.port.state = .stopping := stopping
    rw [if_pos stops]
    rfl
  · rename_i other
    have goesOn : ¬ s.port.state = .stopping := other
    rw [if_neg goesOn]
    rfl

theorem engineToIdle_port_rest (s : State) :
    (engineToIdle s).port.recovery = s.port.recovery ∧ (engineToIdle s).port.driveSbck = s.port.driveSbck ∧
      (engineToIdle s).port.driveSbdt = s.port.driveSbdt := by
  unfold engineToIdle
  dsimp only
  split <;> exact ⟨rfl, rfl, rfl⟩

theorem engineToIdle_holdsEngine (s : State) : PortHoldsEngine (engineToIdle s) := by
  have engine : (engineToIdle s).engine = s.engine.idled := engineToIdle_engine s
  have idle : (engineToIdle s).engine.st = .idle := by rw [engine]; rfl
  refine ⟨fun _ => by rw [engine]; rfl, fun _ => idle, fun stopping => ?_⟩
  rw [engineToIdle_port] at stopping
  split at stopping
  · cases stopping
  · rename_i other
    exact absurd stopping other

/-- The Responder and the recovery sequence read only whether the port is RUNNING or RECOVERING, so the end of a stop is nothing to them. -/
theorem PortConsistent.of_idle {s t : State} (h : PortConsistent s) (port : s.port = t.port)
    (remote : s.responder = t.responder) : PortConsistent (engineToIdle t) := by
  obtain ⟨-, ⟨off, released⟩, recovering, drives⟩ := h
  obtain ⟨recovery, sbck, sbdt⟩ := engineToIdle_port_rest t
  have responder : (engineToIdle t).responder = s.responder := (engineToIdle_frame t).responder.trans remote.symm
  have state := engineToIdle_port t
  rw [← port] at state recovery sbck sbdt
  refine ⟨engineToIdle_holdsEngine t, ⟨?_, ?_⟩, ?_, ?_⟩
  · rw [responder, state, off]
    split <;> simp_all
  · rw [responder]
    exact released
  · rw [recovery, state, recovering]
    split <;> simp_all
  · rw [recovery, sbck, sbdt]
    exact drives

theorem EngineMove.portConsistent {s t : State} (m : EngineMove s t) (h : PortConsistent s) : PortConsistent t := by
  cases m with
  | toIdle => exact h.of_idle rfl rfl
  | report r busy =>
    have goesOn {t : State} (port : t.port = s.port) (responder : t.responder = s.responder) (st : t.engine.st ≠ .idle) :
        PortConsistent t := by
      obtain ⟨engine, off, recovery⟩ := h
      refine ⟨engine.busy busy port st, ?_, ?_⟩
      · unfold PortHoldsResponder
        rw [port, responder]
        exact off
      · unfold PortHoldsRecovery
        rw [port]
        exact recovery
    have responder := (reportResult_frame r s).responder
    rcases reportResult_ends r s with ⟨k, f, u, -, -, engine, port, eq⟩ | ⟨u, engine, port, eq⟩
    · rw [eq] at responder ⊢
      exact goesOn port responder (by simp [linkNext])
    · rw [eq] at responder ⊢
      have idles : PortConsistent (engineToIdle u) ∨ (engineToIdle u).responder ≠ s.responder := by
        by_cases same : (engineToIdle u).responder = s.responder
        · exact .inl (h.of_idle port.symm (same.symm.trans (engineToIdle_frame u).responder))
        · exact .inr same
      cases r with
      | arbLost => exact idles.resolve_right (Classical.not_not.mpr responder)
      | busStuck => exact idles.resolve_right (Classical.not_not.mpr responder)
      | _ => exact goesOn port responder (by simp [engineAfter])

theorem RequestMove.portConsistent {s t : State} (m : RequestMove s t) (h : PortConsistent s) : PortConsistent t := by
  obtain ⟨engine, responder, recovery⟩ := h
  have same {t : State} (frame : RequestFrame s t) (holds : PortHoldsEngine t) : PortConsistent t := by
    refine ⟨holds, ?_, ?_⟩
    · unfold PortHoldsResponder
      rw [frame.port, frame.responder]
      exact responder
    · unfold PortHoldsRecovery
      rw [frame.port]
      exact recovery
  have kept {t : State} (frame : RequestFrame s t) (e : t.engine = s.engine) : PortConsistent t :=
    same frame (engine.of_same e (by rw [frame.port]))
  cases m with
  | choice =>
    have frame := choose_frame s
    rcases chooseRounds_engine 33 s with unchanged | ⟨st, -, running⟩
    · exact kept frame unchanged
    · have st' : (choose s).engine.st ≠ .idle := by simp [choose, st]
      refine same frame ⟨fun idle => absurd idle st', fun off => ?_, fun _ => st'⟩
      rw [frame.port, running] at off
      simp at off
  | place q c k => exact kept (placeRequest_frame k q c s) rfl
  | completeWaiting k o => exact kept (complete_frame k o false s) rfl
  | slot k x => exact kept (setSlot_frame k x s) rfl
  | pop | entries | createEntry | removeEntry => exact kept (by constructor <;> rfl) rfl
  | engine e goesOn =>
    obtain ⟨idled, closed, stopping⟩ := engine
    refine same (setEngine_frame s e) ⟨fun idle => ?_, fun off => ?_, fun stops idle => ?_⟩
    · have stays : e = s.engine := goesOn.stays (idled (goesOn.leaves idle))
      rw [State.setEngine_engine, stays]
      exact idled (goesOn.leaves idle)
    · have stays : e = s.engine := goesOn.stays (idled (closed off))
      rw [State.setEngine_engine, stays]
      exact closed off
    · exact stopping stops (goesOn.leaves idle)

/-- At a stuck line the engine is IDLE, with its IDLE values (R98). -/
theorem engineStuck_idle {s : State} (idled : s.engine.st = .idle → s.engine = s.engine.idled) :
    (engineStuck s).engine.st = .idle ∧ (engineStuck s).engine = (engineStuck s).engine.idled := by
  have enters (u : State) : (engineToIdle u).engine.st = .idle ∧ (engineToIdle u).engine = (engineToIdle u).engine.idled := by
    rw [engineToIdle_engine]
    exact ⟨rfl, rfl⟩
  unfold engineStuck
  split
  · obtain ⟨u, -, -, eq⟩ := reportResult_busStuck s
    rw [eq]
    exact enters u
  · split
    · rename_i idle
      exact ⟨idle, idled idle⟩
    · exact enters s

/-- Where the port is not STOPPING, a stuck line at the engine is nothing to the port (R98). -/
theorem engineStuck_port {s : State} (h : s.port.state ≠ .stopping) :
    (engineStuck s).port.state = s.port.state ∧ (engineStuck s).port.recovery = s.port.recovery ∧
      (engineStuck s).port.driveSbck = s.port.driveSbck ∧ (engineStuck s).port.driveSbdt = s.port.driveSbdt := by
  have enters {u : State} (port : u.port = s.port) : (engineToIdle u).port.state = s.port.state ∧
      (engineToIdle u).port.recovery = s.port.recovery ∧ (engineToIdle u).port.driveSbck = s.port.driveSbck ∧
      (engineToIdle u).port.driveSbdt = s.port.driveSbdt := by
    rw [engineToIdle_port, ← port, if_neg (by rw [port]; exact h)]
    exact ⟨rfl, engineToIdle_port_rest u⟩
  unfold engineStuck
  split
  · obtain ⟨u, -, port, eq⟩ := reportResult_busStuck s
    rw [eq]
    exact enters port
  · split
    · exact ⟨rfl, rfl, rfl, rfl⟩
    · exact enters rfl

/-! ### The Responder -/

/-- A Responder that is OFF stays as it is in what the port reads, and no other becomes OFF. -/
structure OffKept (r r' : Responder) : Prop where
  st : r'.st = .off ↔ r.st = .off
  released : r.st = .off → (r.driveSbck = false ∧ r.driveSbdt = false ∧ r.delay = none ∧ r.release = none) →
    r'.driveSbck = false ∧ r'.driveSbdt = false ∧ r'.delay = none ∧ r'.release = none

theorem OffKept.refl (r : Responder) : OffKept r r := ⟨.rfl, fun _ h => h⟩

/-- A Responder that takes part goes on taking part. -/
theorem OffKept.of_on {r r' : Responder} (h : r.st ≠ .off) (h' : r'.st ≠ .off) : OffKept r r' :=
  ⟨⟨fun e => absurd e h', fun e => absurd e h⟩, fun e => absurd e h⟩

/-- A change of the remote side leaves what the port reads of the other blocks. -/
theorem PortConsistent.of_remote {s t : State} (h : PortConsistent s) (engine : t.engine = s.engine) (port : t.port = s.port)
    (off : OffKept s.responder t.responder) : PortConsistent t := by
  obtain ⟨holds, ⟨closed, released⟩, recovery⟩ := h
  refine ⟨holds.of_same engine (by rw [port]), ⟨?_, fun is => ?_⟩, ?_⟩
  · rw [off.st, port]
    exact closed
  · exact off.released (off.st.mp is) (released (off.st.mp is))
  · unfold PortHoldsRecovery
    rw [port]
    exact recovery

theorem giveUpFrame_st (s : State) : (giveUpFrame s).responder.st = s.responder.st := by
  unfold giveUpFrame endAllFrames
  dsimp only
  split <;> rfl

theorem breakFrame_st (s : State) : (breakFrame s).responder.st = s.responder.st := by
  unfold breakFrame
  split
  · exact giveUpFrame_st s
  · rfl

theorem dropFrame_st (s : State) : (dropFrame s).responder.st = s.responder.st := by
  unfold dropFrame
  split
  · rfl
  · split
    · rw [endWindowFrame_responder]
      rfl
    · rfl

theorem responderRise_on {s : State} (b : Bool) (on : s.responder.st ≠ .off) : (responderRise b s).responder.st ≠ .off := by
  unfold responderRise
  dsimp only
  split
  · exact on
  · exact on
  · split
    case h_1 st =>
      unfold decodingBit decideClaim
      dsimp only
      split
      · split
        · simp [enterPassive]
        split
        · simp [enterPassive]
        · unfold applyDecision
          dsimp only
          split <;> simp [enterClaiming, beginStall, setEvent]
      · simp [st]
    case h_2 st =>
      unfold passiveBit
      dsimp only
      split
      · simp [st]
      split <;> split <;> simp [st, frameOver]
    case h_3 st =>
      split
      · simp [st]
      · unfold claimTaken
        dsimp only
        split
        · split
          · split <;> simp
          · simp [enterPassive]
        · simp [frameOver]
    case h_4 st =>
      unfold sendingBit
      dsimp only
      split <;> split <;> simp [st]
    case h_5 st =>
      unfold receivingBit
      dsimp only
      split
      · simp [st]
      split
      · split
        · simp
        · unfold discardWrite
          dsimp only
          split
          · simp
          · rw [endWindowFrame_responder]
            simp
      · simp [st]
    case h_6 st =>
      unfold confirmingBit
      split
      · rw [endWindowFrame_responder]
        simp [st]
      · simp [st]
    all_goals exact on

theorem responderRise_off {s : State} (b : Bool) (off : s.responder.st = .off) :
    OffKept s.responder (responderRise b s).responder := by
  unfold responderRise
  simp only [off]
  split
  · exact .refl _
  · exact ⟨by simp [off], fun _ h => h⟩
  · exact ⟨by simp [off], fun _ h => h⟩

theorem responderFall_offKept (s : State) : OffKept s.responder (responderFall s).responder := by
  have on {st : ResponderState} (is : s.responder.st = st) (h : st ≠ .off) {r : Responder} (h' : r.st ≠ .off) :
      OffKept s.responder r := .of_on (is ▸ h) h'
  unfold responderFall
  dsimp only
  split
  case h_1 => exact .refl _
  case h_2 st => exact on st (by simp) (by simp [st])
  case h_3 st =>
    split
    · exact on st (by simp) (by simp [responseOver])
    · exact on st (by simp) (by simp [st])
  all_goals
    rename_i st
    exact on st (by simp) (by simp [st])

theorem levelSet_offKept {s : State} (counting : s.responder.delay ≠ none) : OffKept s.responder (levelSet s).responder := by
  have st : (levelSet s).responder.st = s.responder.st := by
    show (commitNow s).responder.st = s.responder.st
    unfold commitNow
    split
    · split
      · exact (commitWrite_rest _ s).1
      · rfl
    · rfl
  exact ⟨by rw [st], fun _ h => absurd h.2.2.1 counting⟩

theorem reevaluateStall_offKept (s : State) : OffKept s.responder (reevaluateStall s).responder := by
  unfold reevaluateStall
  split
  · rename_i stalling
    split
    · exact .refl _
    split
    · exact .refl _
    · exact .of_on (by simp [stalling]) (by simp [(endStall_rest .proceed _).2.1])
  · exact .refl _

theorem RemoteMove.offKept {s t : State} (m : RemoteMove s t) : OffKept s.responder t.responder := by
  cases m with
  | start =>
    unfold responderStart
    split
    · exact .refl _
    · rename_i on
      exact .of_on on (by simp)
  | close =>
    unfold responderClose
    split
    · exact .refl _
    · rename_i on
      exact .of_on (fun off => on (.inl off)) (by simp [responderListen])
  | rise b =>
    by_cases off : s.responder.st = .off
    · exact responderRise_off b off
    · exact .of_on off (responderRise_on b off)
  | fall => exact responderFall_offKept s
  | level counting => exact levelSet_offKept counting
  | counts r goesOn =>
    refine ⟨by rw [State.setResponder_responder, goesOn.st], fun _ h => ?_⟩
    obtain ⟨sbck, sbdt, delay, release⟩ := h
    refine ⟨?_, goesOn.sbdt.trans sbdt, goesOn.delay delay, goesOn.release release⟩
    exact goesOn.sbck.elim (fun same => same.trans sbck) id
  | stallEnds due =>
    simp only [stallDue, Bool.and_eq_true, beq_iff_eq] at due
    exact .of_on (by simp [due.1]) (by simp [(endStall_rest .busy s).2.1])
  | hold i h' =>
    have changed : OffKept s.responder (setWindow i { windowOf s i with hold := h' } s).responder := .refl _
    have after := reevaluateStall_offKept (setWindow i { windowOf s i with hold := h' } s)
    exact after
  | popNotify r rest => exact reevaluateStall_offKept (s.setHold { s.hold with queue := rest })
  | writeWindow | enableWindow | disableWindow | writePage => exact .refl _

theorem endStall_rest_request (c : ClaimCode) (s : State) : SameRequests s (endStall c s) ∧ (endStall c s).port = s.port := by
  unfold endStall
  dsimp only
  split <;> exact ⟨by constructor <;> rfl, rfl⟩

theorem reevaluateStall_rest_request (s : State) :
    SameRequests s (reevaluateStall s) ∧ (reevaluateStall s).port = s.port := by
  have same : SameRequests s s := by constructor <;> rfl
  unfold reevaluateStall
  split
  · split
    · exact ⟨same, rfl⟩
    split
    · exact ⟨by constructor <;> rfl, rfl⟩
    · rename_i i _ _
      obtain ⟨⟨store, exp, std, bkg, nodes, engine, completions⟩, port⟩ := endStall_rest_request .proceed (beginFrame i s)
      have frame := beginFrame_frame i s
      exact ⟨⟨store.trans frame.store, by rw [exp, frame.sched], by rw [std, frame.sched], by rw [bkg, frame.sched],
        nodes.trans frame.nodes, engine.trans frame.engine, completions.trans frame.completions⟩, port.trans frame.port⟩
  · exact ⟨same, rfl⟩

theorem ResponderFrame.requests {s t : State} (h : ResponderFrame s t) : SameRequests s t :=
  ⟨h.store, by rw [h.sched], by rw [h.sched], by rw [h.sched], h.nodes, h.engine, h.completions⟩

/-- The remote side leaves the request side and the port alone. -/
theorem RemoteMove.requests {s t : State} (m : RemoteMove s t) : SameRequests s t ∧ t.port = s.port := by
  have framed {t : State} (h : ResponderFrame s t) : SameRequests s t ∧ t.port = s.port := ⟨h.requests, h.port⟩
  cases m with
  | start => exact framed (responderStart_frame s)
  | close => exact framed (responderClose_frame s)
  | rise b => exact framed (responderRise_frame b s)
  | fall => exact framed (responderFall_frame s)
  | level => exact framed ((commitNow_frame s).trans (setResponder_frame _ _))
  | counts r => exact framed (setResponder_frame s r)
  | stallEnds => exact endStall_rest_request .busy s
  | hold i h =>
    obtain ⟨⟨store, exp, std, bkg, nodes, engine, completions⟩, port⟩ :=
      reevaluateStall_rest_request (setWindow i { windowOf s i with hold := h } s)
    exact ⟨⟨store, exp, std, bkg, nodes, engine, completions⟩, port⟩
  | popNotify r rest =>
    obtain ⟨⟨store, exp, std, bkg, nodes, engine, completions⟩, port⟩ :=
      reevaluateStall_rest_request (s.setHold { s.hold with queue := rest })
    exact ⟨⟨store, exp, std, bkg, nodes, engine, completions⟩, port⟩
  | writeWindow | enableWindow | disableWindow | writePage => exact ⟨by constructor <;> rfl, rfl⟩

/-! ### The port's own moves -/

theorem responderOff_holdsResponder {s : State} (h : s.port.state ≠ .running) : PortHoldsResponder (responderOff s) := by
  obtain ⟨off, sbck, sbdt, delay, release⟩ := responderOff_released s
  refine ⟨⟨fun _ => ?_, fun _ => off⟩, fun _ => ⟨sbck, sbdt, delay, release⟩⟩
  rw [(responderOff_frame s).port]
  exact h

theorem PortMove.portConsistent {s t : State} (m : PortMove s t) (h : PortConsistent s) : PortConsistent t := by
  obtain ⟨engine, responder, recovery⟩ := h
  have idleEngine {t : State} (e : t.engine = s.engine) (idle : s.engine.st = .idle) (st : t.port.state ≠ .stopping) :
      PortHoldsEngine t := ⟨fun _ => by rw [e]; exact engine.1 idle, fun _ => by rw [e]; exact idle, fun h => absurd h st⟩
  have turnsOff {u : State} (port : u.port.recovery = s.port.recovery ∧ u.port.driveSbck = s.port.driveSbck ∧
      u.port.driveSbdt = s.port.driveSbdt) (running : s.port.state = .running) (state : u.port.state ≠ .recovering) :
      PortHoldsRecovery u := by
    obtain ⟨same, sbck, sbdt⟩ := port
    have none : s.port.recovery = .none := by
      exact Classical.byContradiction fun runs => absurd (recovery.1.mp runs) (by simp [running])
    exact ⟨⟨fun runs => absurd (same.trans none) runs, fun is => absurd is state⟩, fun _ => by
      rw [sbck, sbdt]; exact recovery.2 none⟩
  -- A port that is not RUNNING has the Responder OFF, before and after.
  have staysOff {t : State} (same : t.responder = s.responder) (was : s.port.state ≠ .running) (is : t.port.state ≠ .running) :
      PortHoldsResponder t := by
    have off := responder.1.mpr was
    exact ⟨⟨fun _ => is, fun _ => by rw [same]; exact off⟩, fun _ => by rw [same]; exact responder.2 off⟩
  have listens {u : State} : PortHoldsResponder (portRunning u) :=
    ⟨⟨fun off => by simp [portRunning, responderListen] at off, fun other => absurd rfl other⟩,
      fun off => by simp [portRunning, responderListen] at off⟩
  cases m with
  | enable disabled =>
    have none : s.port.recovery = .none := by
      exact Classical.byContradiction fun runs => absurd (recovery.1.mp runs) (by simp [disabled])
    refine ⟨idleEngine rfl (engine.2.1 (.inl disabled)) ?_, listens, ⟨fun runs => absurd none runs, fun is => ?_⟩, recovery.2⟩
    · simp [portRunning, responderListen, lineRestart, setPortState]
    · simp [portRunning, responderListen, lineRestart, setPortState] at is
  | disable running idle =>
    have port : (responderOff (monitorDisabled (setPortState .disabled s))).port = { s.port with state := .disabled } :=
      (responderOff_frame _).port
    exact ⟨idleEngine (responderOff_frame _).engine idle (by simp [port]),
      responderOff_holdsResponder (by simp [monitorDisabled, setPortState]), turnsOff (by simp [port]) running (by simp [port])⟩
  | stop running busy =>
    have port : (responderOff (setPortState .stopping s)).port = { s.port with state := .stopping } :=
      (responderOff_frame _).port
    have e : (responderOff (setPortState .stopping s)).engine = s.engine := (responderOff_frame _).engine
    refine ⟨⟨fun idle => ?_, fun off => ?_, fun _ => by rw [e]; exact busy⟩, responderOff_holdsResponder (by simp [setPortState]),
      turnsOff (by simp [port]) running (by simp [port])⟩
    · exact absurd (e ▸ idle) busy
    · simp [port] at off
  | clearFault fault =>
    have none : s.port.recovery = .none := by
      exact Classical.byContradiction fun runs => absurd (recovery.1.mp runs) (by simp [fault])
    exact ⟨idleEngine rfl (engine.2.1 (.inr (.inl fault))) (by simp [setPortState]),
      staysOff rfl (by simp [fault]) (by simp [setPortState]),
      ⟨fun runs => absurd none runs, fun is => by simp [setPortState] at is⟩, recovery.2⟩
  | recover p fault begun =>
    obtain ⟨state, runs⟩ := begun
    exact ⟨idleEngine rfl (engine.2.1 (.inr (.inl fault))) (by simp [state]), staysOff rfl (by simp [fault]) (by simp [state]),
      ⟨fun _ => state, fun _ => runs⟩, fun none => absurd none runs⟩
  | sequence p running goesOn =>
    obtain ⟨state, runs⟩ := goesOn
    have recovers : s.port.state = .recovering := recovery.1.mp running
    exact ⟨engine.of_same rfl state, staysOff rfl (by simp [recovers]) (by simp [state, recovers]),
      ⟨fun _ => state.trans recovers, fun _ => runs⟩, fun none => absurd none runs⟩
  | fail p fault ended =>
    obtain ⟨state, none, sbck, sbdt⟩ := ended
    have was : s.port.state = .fault ∨ s.port.state = .recovering := fault.imp id recovery.1.mp
    have notRunning : s.port.state ≠ .running := by rcases was with is | is <;> simp [is]
    exact ⟨idleEngine rfl (engine.2.1 (.inr was)) (by simp [state]), staysOff rfl notRunning (by simp [state]),
      ⟨fun runs => absurd none runs, fun is => by simp [state] at is⟩, fun _ => ⟨sbck, sbdt⟩⟩
  | succeed running =>
    have recovers : s.port.state = .recovering := recovery.1.mp running
    refine ⟨idleEngine rfl (engine.2.1 (.inr (.inr recovers))) ?_, listens, ⟨fun runs => absurd rfl runs, fun is => ?_⟩,
      fun _ => ⟨rfl, rfl⟩⟩
    · simp [portRunning, responderListen, lineRestart, setPortState]
    · simp [portRunning, responderListen, lineRestart, setPortState] at is
  | stuck running =>
    have frame : ResponderFrame (setPortState .fault s) (responderOff (setPortState .fault s)) := responderOff_frame _
    have faults : (responderOff (setPortState .fault s)).port = { s.port with state := .fault } := frame.port
    have idled : (responderOff (setPortState .fault s)).engine.st = .idle →
        (responderOff (setPortState .fault s)).engine = (responderOff (setPortState .fault s)).engine.idled := by
      rw [frame.engine]
      exact engine.1
    obtain ⟨idle, values⟩ := engineStuck_idle idled
    obtain ⟨state, same, sbck, sbdt⟩ := engineStuck_port (s := responderOff (setPortState .fault s)) (by simp [faults])
    rw [faults] at state same sbck sbdt
    have off := responderOff_holdsResponder (s := setPortState .fault s) (by simp [setPortState])
    refine ⟨⟨fun _ => values, fun _ => idle, fun stops => by simp [state] at stops⟩, ?_,
      turnsOff ⟨same, sbck, sbdt⟩ running (by simp [state])⟩
    unfold PortHoldsResponder at off ⊢
    rw [(engineStuck_frame _).responder, state]
    rwa [faults] at off

theorem Move.portConsistent {s t : State} (m : Move s t) (h : PortConsistent s) : PortConsistent t := by
  cases m with
  | same core =>
    obtain ⟨engine, responder, recovery⟩ := h
    refine ⟨engine.of_same core.engine core.portState, ?_, ?_⟩
    · unfold PortHoldsResponder
      rw [core.responder, core.portState]
      exact responder
    · unfold PortHoldsRecovery
      rw [core.recovery, core.portState, core.portSbck, core.portSbdt]
      exact recovery
  | request m => exact m.portConsistent h
  | engine m => exact m.portConsistent h
  | remote m => exact h.of_remote m.requests.1.engine m.requests.2 m.offKept
  | port m => exact m.portConsistent h
  | softReset eq =>
    subst eq
    unfold PortConsistent PortHoldsEngine PortHoldsResponder PortHoldsRecovery
    simp [softResetState, Engine.reset, Engine.idled, Responder.reset, Port.reset]
  | hardReset a b c eq =>
    subst eq
    unfold PortConsistent PortHoldsEngine PortHoldsResponder PortHoldsRecovery
    simp [Machine.hardReset, State.reset, Engine.reset, Engine.idled, Responder.reset, Port.reset]

/-- Settles O58: by the moves of the port, the engine and the Responder. -/
theorem portStaysConsistent : Obligations.PortStaysConsistent :=
  fun _ _ consistent next => step_keeps (I := PortConsistent) Move.portConsistent (fun _ _ h => h) next consistent

/-- Settles O55: the holds by the edits of the windows, the frames by the moves of the Responder beside the port's. -/
theorem holdsStayLegal : Obligations.HoldsStayLegal :=
  ⟨step_keeps_holdsLegal, fun _ _ port held next =>
    step_keeps_beside (J := PortConsistent) (I := FrameHeld) Move.portConsistent Move.frameHeld (fun _ _ h => h) next port held⟩

end Sys2Proof.Machine

/-! The rules of the request path: what each operation on slots, queues, nodes and records leaves to be read, and what a completion does. -/

namespace Sys2Proof.Machine

/-! ### Slots, timers and queues -/

theorem slotOf_setSlot (k j : Fin 32) (x : Slot) (s : State) :
    slotOf (setSlot k x s) j = if j = k then x else slotOf s j := tget_tset s.store.slots k j x

@[simp] theorem slotOf_setSlot_same (k : Fin 32) (x : Slot) (s : State) : slotOf (setSlot k x s) k = x := by
  simp [slotOf_setSlot]

@[simp] theorem setSlot_self (k : Fin 32) (s : State) : setSlot k (slotOf s k) s = s := by
  unfold setSlot slotOf
  rw [tset_self]
  rfl

theorem timerOf_setTimer (k j : Fin 32) (t : DeadlineTimer) (s : State) :
    timerOf (setTimer k t s) j = if j = k then t else timerOf s j := tget_tset s.sched.timers k j t

/-- Two states with the same slots. -/
theorem slotOf_of_store {s t : State} (h : t.store = s.store) (k : Fin 32) : slotOf t k = slotOf s k := by
  unfold slotOf
  rw [h]

theorem queueList_removeQueued (k : Fin 32) (c : Sched) (q : QueueName) :
    queueList (removeQueued k c) q = (queueList c q).filter (· != k) := by
  cases q <;> rfl

theorem queueList_appendQueue (q p : QueueName) (k : Fin 32) (c : Sched) :
    queueList (appendQueue q k c) p = if p = q then queueList c q ++ [k] else queueList c p := by
  cases q <;> cases p <;> rfl

theorem queueList_of_lists {c d : Sched} (exp : d.exp = c.exp) (std : d.std = c.std) (bkg : d.bkg = c.bkg)
    (q : QueueName) : queueList d q = queueList c q := by
  cases q <;> assumption

theorem tget_mapNodes (p : Byte → Bool) (f : NodeEntry → NodeEntry) (s : State) (i : Fin 16) :
    tget (mapNodes p f s).nodes i = (tget s.nodes i).map fun n => if p n.address then f n else n :=
  tget_tmap _ _ i

/-! ### A completion (R111 to R113) -/

theorem slotOf_complete (k j : Fin 32) (o : RequestOutcome) (b : Bool) (s : State) :
    slotOf (complete k o b s) j = if j = k then doneSlot (slotOf s k) o b else slotOf s j :=
  slotOf_setSlot k j _ s

theorem timerOf_complete (k j : Fin 32) (o : RequestOutcome) (b : Bool) (s : State) :
    timerOf (complete k o b s) j = if j = k then .off else timerOf s j := tget_tset s.sched.timers k j _

theorem queueList_complete (k : Fin 32) (o : RequestOutcome) (b : Bool) (s : State) (q : QueueName) :
    queueList (complete k o b s).sched q = (queueList s.sched q).filter (· != k) := by
  cases q <;> rfl

theorem complete_completions (k : Fin 32) (o : RequestOutcome) (b : Bool) (s : State) :
    (complete k o b s).completions = s.completions ++ [recordOf k (doneSlot (slotOf s k) o b) o] := rfl

theorem tget_complete_nodes (k : Fin 32) (o : RequestOutcome) (b : Bool) (s : State) (i : Fin 16) :
    tget (complete k o b s).nodes i =
      (tget s.nodes i).map fun e => if names (slotOf s k).chain e.address then { e with refs := e.refs - 1 } else e :=
  tget_mapNodes _ _ _ i

/-- What the request path leaves alone, from its frame. -/
theorem RequestFrame.keepsRemoteSide {s t : State} (h : RequestFrame s t) : KeepsRemoteSide s t :=
  ⟨h.pending, h.host, h.edit, h.cfg, h.windows, h.responder, h.page, h.hold⟩

theorem complete_completesAs (k : Fin 32) (o : RequestOutcome) (failed : Bool) (s : State) :
    CompletesAs k o failed s (complete k o failed s) := by
  refine ⟨?done, ?others, rfl, ?off, ?timers, queueList_complete k o failed s, rfl, rfl, tget_complete_nodes k o failed s,
    rfl, rfl, rfl, rfl, rfl, rfl, (complete_frame k o failed s).keepsRemoteSide⟩
  case done => simp [slotOf_complete, doneSlot]
  case others =>
    intro j other
    simp [slotOf_complete, other]
  case off => simp [timerOf_complete]
  case timers =>
    intro j other
    simp [timerOf_complete, other]

/-- A completion leaves a DONE slot with the tag, queue and chain it had. -/
theorem doneSlot_rest (x : Slot) (o : RequestOutcome) (b : Bool) :
    (doneSlot x o b).state = .done ∧ (doneSlot x o b).tag = x.tag ∧ (doneSlot x o b).queue = x.queue ∧
      (doneSlot x o b).chain = x.chain := ⟨rfl, rfl, rfl, rfl⟩

/-! ### The choice (R44 to R50) -/

theorem names_iff {c : List Frame} {a : Byte} : names c a = true ↔ ∃ f ∈ c, f.dest = a := by
  simp [names]

theorem shareNode_iff {c d : List Frame} : shareNode c d = true ↔ ∃ f ∈ c, ∃ g ∈ d, f.dest = g.dest := by
  simp only [shareNode, List.any_eq_true, names_iff]
  constructor
  · rintro ⟨f, hf, g, hg, eq⟩
    exact ⟨f, hf, g, hg, eq.symm⟩
  · rintro ⟨f, hf, g, hg, eq⟩
    exact ⟨f, hf, g, hg, eq.symm⟩

/-- The model's test of a request is R44 and R45. -/
theorem eligible_iff (s : State) (older : List (Fin 32)) (k : Fin 32) :
    eligible s older k = true ↔ EligibleAfter s older k := by
  have available : nodesAvailable (slotOf s k).chain s = true ↔
      ∀ f ∈ (slotOf s k).chain, nodeState f.dest s = some .available := by
    simp [nodesAvailable, nodeAvailable]
  have free : heldBack s older k = false ↔ ∀ o ∈ older, (slotOf s o).state = .waiting ∨ (slotOf s o).state = .active →
      ∀ f ∈ (slotOf s o).chain, ∀ g ∈ (slotOf s k).chain, f.dest ≠ g.dest := by
    unfold heldBack
    rw [List.any_eq_false]
    refine forall_congr' fun o => forall_congr' fun _ => ?_
    rw [Bool.and_eq_true, shareNode_iff]
    simp only [Bool.or_eq_true, beq_iff_eq, not_and, not_exists]
  unfold eligible EligibleAfter
  rw [Bool.and_eq_true, Bool.and_eq_true, Bool.and_eq_true, available, Bool.not_eq_true', Bool.not_eq_true', free, beq_iff_eq]
  exact ⟨fun ⟨⟨⟨waits, all⟩, keeps⟩, other⟩ => ⟨waits, keeps, all, other⟩,
    fun ⟨waits, keeps, all, other⟩ => ⟨⟨⟨waits, all⟩, keeps⟩, other⟩⟩

/-- The search goes from the head to the first request that may be chosen, given all that it passed. -/
theorem oldestEligible_iff (s : State) (k : Fin 32) (l : List (Fin 32)) : ∀ passed,
    oldestEligible s passed l = some k ↔
      ∃ older younger, l = older ++ k :: younger ∧ EligibleAfter s (passed ++ older) k ∧
        ∀ a x b, older = a ++ x :: b → ¬ EligibleAfter s (passed ++ a) x := by
  induction l with
  | nil => intro passed; simp [oldestEligible]
  | cons j rest ih =>
    intro passed
    unfold oldestEligible
    split
    · rename_i first
      rw [eligible_iff] at first
      constructor
      · rintro ⟨⟩
        exact ⟨[], rest, rfl, by simpa using first, fun a x b eq => by simp at eq⟩
      · rintro ⟨older, younger, eq, -, none⟩
        cases older with
        | nil => simp_all
        | cons x older =>
          simp only [List.cons_append, List.cons.injEq] at eq
          exact absurd (by simpa [← eq.1] using first) (none [] x older rfl)
    · rename_i notFirst
      rw [eligible_iff] at notFirst
      rw [ih]
      constructor
      · rintro ⟨older, younger, eq, may, none⟩
        refine ⟨j :: older, younger, by simp [eq], by simpa using may, ?_⟩
        intro a x b split
        cases a with
        | nil =>
          simp only [List.nil_append, List.cons.injEq] at split
          simpa [← split.1] using notFirst
        | cons y a =>
          simp only [List.cons_append, List.cons.injEq] at split
          simpa [← split.1] using none a x b split.2
      · rintro ⟨older, younger, eq, may, none⟩
        cases older with
        | nil =>
          simp only [List.nil_append, List.cons.injEq] at eq
          exact absurd (by simpa [← eq.1] using may) notFirst
        | cons x older =>
          simp only [List.cons_append, List.cons.injEq] at eq
          refine ⟨older, younger, eq.2, by simpa [← eq.1] using may, fun a y b split => ?_⟩
          simpa [← eq.1] using none (x :: a) y b (by simp [split])

/-- The candidate of a queue is its oldest eligible request (R50). -/
theorem candidate_iff (s : State) (q : QueueName) (k : Fin 32) :
    candidate s q = some k ↔ OldestEligible s (queueList s.sched q) k := by
  simpa [OldestEligible, candidate] using oldestEligible_iff s k (queueList s.sched q) []

/-- A candidate is a WAITING request of its queue. -/
theorem candidate_waiting {s : State} {q : QueueName} {k : Fin 32} (h : candidate s q = some k) :
    (slotOf s k).state = .waiting ∧ k ∈ queueList s.sched q := by
  obtain ⟨older, younger, eq, may, -⟩ := (candidate_iff s q k).mp h
  exact ⟨may.1, by simp [eq]⟩

/-! ### The rounds of a choice, as an induction (R47, R54) -/

/-- What a LOCAL_TARGET disposal keeps, and a hand-over to the engine gives, a choice gives. -/
theorem choose_induction {I J : State → Prop} (stops : ∀ s, I s → J s)
    (disposes : ∀ s k, I s → (slotOf s k).state = .waiting → I (complete k .localTarget false s))
    (activates : ∀ s q k, I s → choiceOpen s = true → (slotOf s k).state = .waiting → k ∈ queueList s.sched q →
      J (activate q k s)) {s : State} (h : I s) : J (choose s) := by
  have rounds (n : Nat) : ∀ s, I s → J (chooseRounds n s) := by
    induction n with
    | zero => exact stops
    | succ n ih =>
      intro s h
      unfold chooseRounds
      split
      · rename_i opened
        split
        · exact stops s h
        · rename_i q _
          split
          · exact stops s h
          · rename_i k chosen
            obtain ⟨waiting, listed⟩ := candidate_waiting chosen
            split
            · exact ih _ (disposes s k h waiting)
            · exact activates s q k h opened waiting listed
      · exact stops s h
  exact rounds 33 s h

end Sys2Proof.Machine

/-! The ten checks of SUBMIT (R34): each test of the model is its check, so the first check that fails gives the result, and a request that passes all ten is placed. -/

namespace Sys2Proof.Machine

/-! ### The tests of the frames -/

theorem lengthFits_iff (r : RawFrame) : lengthFits r = true ↔ LengthOk r := by
  unfold lengthFits LengthOk
  split
  · rename_i probe
    simp [probe]
  · rename_i other
    have notProbe : r.kind ≠ some .probe := fun e => other e
    simp [notProbe]

theorem validAddress_iff (a : Byte) : validAddress a = true ↔ a ≠ 0 ∧ a ≠ 255 := by
  simp [validAddress]

/-- A search for a frame that fails a check finds the first (R35). -/
theorem findIdx?_firstBad {p : RawFrame → Bool} {Q : RawFrame → Prop} (test : ∀ r, p r = true ↔ ¬ Q r)
    {l : List RawFrame} {i : Nat} (h : FirstBad Q l i) : l.findIdx? p = some i := by
  obtain ⟨⟨r, at_, bad⟩, before⟩ := h
  obtain ⟨inside, eq⟩ := List.getElem?_eq_some_iff.mp at_
  rw [List.findIdx?_eq_some_iff_getElem]
  refine ⟨inside, by rw [eq, test]; exact bad, fun j earlier found => ?_⟩
  exact (test _).mp found (before j _ earlier (List.getElem?_eq_getElem (by omega)))

/-- A search finds none exactly where every frame passes. -/
theorem findIdx?_none_iff {p : RawFrame → Bool} {Q : RawFrame → Prop} (test : ∀ r, p r = true ↔ ¬ Q r)
    {l : List RawFrame} : l.findIdx? p = none ↔ ∀ r ∈ l, Q r := by
  rw [List.findIdx?_eq_none_iff]
  refine forall_congr' fun r => forall_congr' fun _ => ?_
  rw [← Bool.not_eq_true, test, Classical.not_not]

theorem kindMissing_iff (r : RawFrame) : r.kind.isNone = true ↔ ¬ r.kind ≠ none := by simp

theorem lengthMisfit_iff (r : RawFrame) : (!lengthFits r) = true ↔ ¬ LengthOk r := by
  rw [← lengthFits_iff]; simp

theorem addressInvalid_iff (r : RawFrame) : (!validAddress r.dest) = true ↔ ¬ AddressOk r := by
  unfold AddressOk
  rw [← validAddress_iff]
  simp

theorem nodeMissing_iff (s : State) (r : RawFrame) : (nodeAt r.dest s).isNone = true ↔ ¬ nodeState r.dest s ≠ none := by
  simp [nodeState]

theorem nodeSuspended_iff (s : State) (r : RawFrame) :
    (nodeState r.dest s == some .suspended) = true ↔ ¬ nodeState r.dest s ≠ some .suspended := by simp

/-! ### The checks in their order -/

/-- The checks as the words of the statements name them. -/
theorem submitCheck_eq (s : State) : submitCheck s =
    match (staged s).queue with
    | none => .refused .badQueue 0
    | some q =>
      if (staged s).count < 1 ∨ 4 < (staged s).count then .refused .badCount 0
      else match (stagedFrames s).findIdx? (fun r => r.kind.isNone) with
      | some i => .refused .badKind i
      | none =>
      match (stagedFrames s).findIdx? (fun r => !lengthFits r) with
      | some i => .refused .badLength i
      | none =>
      if 64 < ((stagedFrames s).map RawFrame.length).sum then .refused .overSize 0
      else match (stagedFrames s).findIdx? (fun r => !validAddress r.dest) with
      | some i => .refused .badAddress i
      | none =>
      match (stagedFrames s).findIdx? (fun r => (nodeAt r.dest s).isNone) with
      | some i => .refused .nodeUnknown i
      | none =>
      match (stagedFrames s).findIdx? (fun r => nodeState r.dest s == some .suspended) with
      | some i => .refused .nodeSuspended i
      | none =>
      if queueLimit s.cfg q ≤ (queueList s.sched q).length then .refused .queueFull 0
      else match tfind (fun x => x.state == .free) s.store.slots with
      | none => .refused .noSlot 0
      | some k => .passed q (chainOf (stagedFrames s)) k := rfl

section
variable {s : State} {n : Nat} (h : PassesChecks s n)
include h

theorem PassesChecks.queue (le : 1 ≤ n) : ∃ q, (staged s).queue = some q :=
  Option.ne_none_iff_exists'.mp (h.1 le)

theorem PassesChecks.count (le : 2 ≤ n) : ¬ ((staged s).count < 1 ∨ 4 < (staged s).count) := by
  have range := h.2.1 le
  omega

theorem PassesChecks.kinds (le : 3 ≤ n) : (stagedFrames s).findIdx? (fun r => r.kind.isNone) = none :=
  (findIdx?_none_iff kindMissing_iff).mpr (h.2.2.1 le)

theorem PassesChecks.lengths (le : 4 ≤ n) : (stagedFrames s).findIdx? (fun r => !lengthFits r) = none :=
  (findIdx?_none_iff lengthMisfit_iff).mpr (h.2.2.2.1 le)

theorem PassesChecks.size (le : 5 ≤ n) : ¬ 64 < ((stagedFrames s).map RawFrame.length).sum := by
  have total := h.2.2.2.2.1 le
  omega

theorem PassesChecks.addresses (le : 6 ≤ n) : (stagedFrames s).findIdx? (fun r => !validAddress r.dest) = none :=
  (findIdx?_none_iff addressInvalid_iff).mpr (h.2.2.2.2.2.1 le)

theorem PassesChecks.known (le : 7 ≤ n) : (stagedFrames s).findIdx? (fun r => (nodeAt r.dest s).isNone) = none :=
  (findIdx?_none_iff (nodeMissing_iff s)).mpr (h.2.2.2.2.2.2.1 le)

theorem PassesChecks.available (le : 8 ≤ n) :
    (stagedFrames s).findIdx? (fun r => nodeState r.dest s == some .suspended) = none :=
  (findIdx?_none_iff (nodeSuspended_iff s)).mpr (h.2.2.2.2.2.2.2.1 le)

theorem PassesChecks.room (le : 9 ≤ n) {q : QueueName} (queue : (staged s).queue = some q) :
    ¬ queueLimit s.cfg q ≤ (queueList s.sched q).length := by
  have below := h.2.2.2.2.2.2.2.2.1 le q queue
  omega

end

/-- A search for a FREE slot finds the lowest (R38). -/
theorem freeSlot_lowest {s : State} {k : Fin 32} (free : (slotOf s k).state = .free)
    (lowest : ∀ j, j < k → (slotOf s j).state ≠ .free) : tfind (fun x => x.state == .free) s.store.slots = some k := by
  have isFree : (tget s.store.slots k).state = .free := free
  obtain ⟨i, found⟩ := Option.isSome_iff_exists.mp
    (tfind_isSome.mpr ⟨k, beq_iff_eq.mpr isFree⟩ : (tfind (fun x => x.state == .free) s.store.slots).isSome = true)
  have freeI : (slotOf s i).state = .free := by simpa [slotOf] using tfind_some found
  rcases Nat.lt_trichotomy i k with below | same | above
  · exact absurd freeI (lowest i below)
  · rw [found, Fin.ext same]
  · have noneBelow := tfind_lowest found above
    simp [isFree] at noneBelow

/-- All ten checks pass: the request goes to its queue and the lowest FREE slot (R34, R38). -/
theorem submitCheck_passes {s : State} {q : QueueName} {k : Fin 32} (h : PassesChecks s 10)
    (queue : (staged s).queue = some q) (free : (slotOf s k).state = .free)
    (lowest : ∀ j, j < k → (slotOf s j).state ≠ .free) :
    submitCheck s = .passed q (chainOf (stagedFrames s)) k := by
  simp only [submitCheck_eq, queue, h.count (by omega), h.kinds (by omega), h.lengths (by omega), h.size (by omega),
    h.addresses (by omega), h.known (by omega), h.available (by omega), h.room (by omega) queue, if_false,
    freeSlot_lowest free lowest]

/-- What a request that the checks let through has shown (R34). -/
theorem submitCheck_passed {s : State} {q : QueueName} {c : List Frame} {k : Fin 32} (h : submitCheck s = .passed q c k) :
    (staged s).queue = some q ∧ c = chainOf (stagedFrames s) ∧ (slotOf s k).state = .free ∧ PassesChecks s 10 := by
  rw [submitCheck_eq] at h
  split at h; · cases h
  rename_i q' queue
  split at h; · cases h
  rename_i count
  split at h; · cases h
  rename_i kinds
  split at h; · cases h
  rename_i lengths
  split at h; · cases h
  rename_i size
  split at h; · cases h
  rename_i addresses
  split at h; · cases h
  rename_i known
  split at h; · cases h
  rename_i available
  split at h; · cases h
  rename_i room
  split at h; · cases h
  rename_i k' found
  cases h
  have free : (slotOf s k).state = .free := by simpa [slotOf] using tfind_some found
  refine ⟨queue, rfl, free, fun _ => by simp [queue], fun _ => by omega, fun _ => (findIdx?_none_iff kindMissing_iff).mp kinds,
    fun _ => (findIdx?_none_iff lengthMisfit_iff).mp lengths, fun _ => by omega,
    fun _ => (findIdx?_none_iff addressInvalid_iff).mp addresses, fun _ => (findIdx?_none_iff (nodeMissing_iff s)).mp known,
    fun _ => (findIdx?_none_iff (nodeSuspended_iff s)).mp available, fun _ p queue' => ?_, fun _ => ⟨k, free⟩⟩
  rw [queue, Option.some.injEq] at queue'
  subst queue'
  omega

/-! ### The chain of the staged request -/

/-- Where every kind is defined, the chain has one frame for each descriptor, to the same node (R25). -/
theorem chainOf_dests {l : List RawFrame} (h : ∀ r ∈ l, r.kind ≠ none) :
    (chainOf l).map Frame.dest = l.map RawFrame.dest := by
  induction l with
  | nil => rfl
  | cons r rest ih =>
    obtain ⟨kind, eq⟩ := Option.ne_none_iff_exists'.mp (h r (by simp))
    have tail := ih fun r' mem => h r' (by simp [mem])
    simp only [chainOf] at tail
    simp [chainOf, eq, tail]

theorem stagedFrames_length (s : State) : (stagedFrames s).length = (staged s).count := by
  simp [stagedFrames, rawFrames]

/-- What the rest of the model needs of a request that is placed: a chain that names nodes in use and not SUSPENDED (R34). -/
theorem placed_chain {s : State} {q : QueueName} {c : List Frame} {k : Fin 32} (h : submitCheck s = .passed q c k) :
    c ≠ [] ∧ ∀ f ∈ c, nodeState f.dest s ≠ none ∧ nodeState f.dest s ≠ some .suspended := by
  obtain ⟨-, rfl, -, passes⟩ := submitCheck_passed h
  have kinds := passes.2.2.1 (by omega)
  have dests := chainOf_dests kinds
  constructor
  · intro empty
    have length := congrArg List.length dests
    have count := passes.2.1 (by omega)
    simp [empty, stagedFrames_length] at length
    omega
  · intro f mem
    have dest : f.dest ∈ (stagedFrames s).map RawFrame.dest := dests ▸ List.mem_map_of_mem mem
    obtain ⟨r, listed, eq⟩ := List.mem_map.mp dest
    rw [← eq]
    exact ⟨passes.2.2.2.2.2.2.1 (by omega) r listed, passes.2.2.2.2.2.2.2.1 (by omega) r listed⟩

/-! ### The command -/

/-- A refused SUBMIT posts its result and changes nothing (R34, R35). -/
theorem exec_submit_refused {s : State} {c : ResultCode} {v : Nat} (w : WriteOpen 0x004 s)
    (h : submitCheck s = .refused c v) :
    exec .submit s = .next { s with host := posted c (BitVec.ofNat 8 v) s.host } := by
  have posts : pointerUp (runCommand submitCommand s) = s.setHost (posted c (BitVec.ofNat 8 v) s.host) := by
    refine runCommand_posted ?_
    unfold submitCommand
    rw [submitCheck_setHost, h]
    rfl
  calc exec .submit s = .next (hostCommand submitCommand s) := rfl
    _ = .next (s.setHost (posted c (BitVec.ofNat 8 v) s.host)) := by rw [hostCommand_open w, posts]

/-- Settles O16: each refusal by the checks before it and the test that fails. -/
theorem submitRefusals : Obligations.SubmitRefusals := by
  intro s w
  refine ⟨?queue, ?count, ?kind, ?length, ?size, ?address, ?unknown, ?suspended, ?full, ?slot⟩
  case queue =>
    intro queue
    exact exec_submit_refused w (v := 0) (by simp only [submitCheck_eq, queue])
  case count =>
    intro h bad
    obtain ⟨q, queue⟩ := h.queue (by omega)
    have fails : (staged s).count < 1 ∨ 4 < (staged s).count := by omega
    exact exec_submit_refused w (v := 0) (by simp only [submitCheck_eq, queue, fails, if_true])
  case kind =>
    intro i h bad
    obtain ⟨q, queue⟩ := h.queue (by omega)
    exact exec_submit_refused w (by
      simp only [submitCheck_eq, queue, h.count (by omega), if_false, findIdx?_firstBad kindMissing_iff bad])
  case length =>
    intro i h bad
    obtain ⟨q, queue⟩ := h.queue (by omega)
    exact exec_submit_refused w (by
      simp only [submitCheck_eq, queue, h.count (by omega), h.kinds (by omega), if_false,
        findIdx?_firstBad lengthMisfit_iff bad])
  case size =>
    intro h bad
    obtain ⟨q, queue⟩ := h.queue (by omega)
    exact exec_submit_refused w (v := 0) (by
      simp only [submitCheck_eq, queue, h.count (by omega), h.kinds (by omega), h.lengths (by omega), if_false, bad, if_true])
  case address =>
    intro i h bad
    obtain ⟨q, queue⟩ := h.queue (by omega)
    exact exec_submit_refused w (by
      simp only [submitCheck_eq, queue, h.count (by omega), h.kinds (by omega), h.lengths (by omega), h.size (by omega),
        if_false, findIdx?_firstBad addressInvalid_iff bad])
  case unknown =>
    intro i h bad
    obtain ⟨q, queue⟩ := h.queue (by omega)
    exact exec_submit_refused w (by
      simp only [submitCheck_eq, queue, h.count (by omega), h.kinds (by omega), h.lengths (by omega), h.size (by omega),
        h.addresses (by omega), if_false, findIdx?_firstBad (nodeMissing_iff s) bad])
  case suspended =>
    intro i h bad
    obtain ⟨q, queue⟩ := h.queue (by omega)
    exact exec_submit_refused w (by
      simp only [submitCheck_eq, queue, h.count (by omega), h.kinds (by omega), h.lengths (by omega), h.size (by omega),
        h.addresses (by omega), h.known (by omega), if_false, findIdx?_firstBad (nodeSuspended_iff s) bad])
  case full =>
    intro q h queue full
    exact exec_submit_refused w (v := 0) (by
      simp only [submitCheck_eq, queue, h.count (by omega), h.kinds (by omega), h.lengths (by omega), h.size (by omega),
        h.addresses (by omega), h.known (by omega), h.available (by omega), if_false, full, if_true])
  case slot =>
    intro h taken
    obtain ⟨q, queue⟩ := h.queue (by omega)
    have none : tfind (fun x => x.state == .free) s.store.slots = none :=
      tfind_eq_none.mpr fun k => by simpa [slotOf] using taken k
    exact exec_submit_refused w (v := 0) (by
      simp only [submitCheck_eq, queue, h.count (by omega), h.kinds (by omega), h.lengths (by omega), h.size (by omega),
        h.addresses (by omega), h.known (by omega), h.available (by omega), h.room (by omega) queue, if_false, none])

end Sys2Proof.Machine

/-! Slots, queues, records and engine agree (R23, R40, R47, R78, R114): kept by every move. Inside a move the engine may hold a slot that is no longer ACTIVE, so the agreement is first stated for the slot that is held. -/

namespace Sys2Proof.Machine

/-! ### Agreement, but for the engine's own values -/

/-- Queues and records are exact, and the ACTIVE slot is the one held. -/
structure Agrees (held : Option (Fin 32)) (s : State) : Prop where
  queues : QueuesExact s
  records : RecordsExact s
  active : ∀ k, (slotOf s k).state = .active ↔ held = some k

/-- What the engine's values are, given the chain of the slot that it holds. -/
structure EngineFits (e : Engine) (chain : Fin 32 → List Frame) : Prop where
  inFrame : ∀ k, e.held = some k → e.st.inFrame = true ∧ e.frameIndex < (chain k).length
  idle : e.st = .idle → e = e.idled
  ofStop : e.phase.ofStop → e.st = .stopping
  ofCondition : e.phase = .condFirst → e.st = .linking ∨ e.st = .stopping

/-- The chains of the slots. -/
def chains (s : State) (k : Fin 32) : List Frame := (slotOf s k).chain

theorem requestsConsistent_iff (s : State) :
    RequestsConsistent s ↔ Agrees s.engine.held s ∧ EngineFits s.engine (chains s) := by
  constructor
  · rintro ⟨queues, records, active, inFrame, idle, ofStop, ofCondition⟩
    exact ⟨⟨queues, records, active⟩, inFrame, idle, ofStop, ofCondition⟩
  · rintro ⟨⟨queues, records, active⟩, inFrame, idle, ofStop, ofCondition⟩
    exact ⟨queues, records, active, inFrame, idle, ofStop, ofCondition⟩

section
variable {s t : State}

/-- The request side is read the same. -/
theorem Agrees.of_read {held : Option (Fin 32)} (h : Agrees held s) (slots : ∀ k, slotOf t k = slotOf s k)
    (queues : ∀ q, queueList t.sched q = queueList s.sched q) (completions : t.completions = s.completions) :
    Agrees held t := by
  obtain ⟨⟨listed, named, exp, std, bkg⟩, ⟨once, done⟩, active⟩ := h
  refine ⟨⟨?_, ?_, ?_, ?_, ?_⟩, ⟨?_, ?_⟩, ?_⟩
  · intro q k
    rw [queues, slots]
    exact listed q k
  · intro k
    rw [slots]
    exact named k
  · rwa [show t.sched.exp = s.sched.exp from queues .expedite]
  · rwa [show t.sched.std = s.sched.std from queues .standard]
  · rwa [show t.sched.bkg = s.sched.bkg from queues .background]
  · rw [completions]
    exact once
  · intro k
    rw [completions, slots]
    exact done k
  · intro k
    rw [slots]
    exact active k

theorem QueuesExact.nodup (h : QueuesExact s) (q : QueueName) : (queueList s.sched q).Nodup := by
  obtain ⟨-, -, exp, std, bkg⟩ := h
  cases q <;> assumption

/-- From the lists by name. -/
theorem QueuesExact.of_lists (listed : ∀ q k, k ∈ queueList s.sched q ↔
      (slotOf s k).queued = true ∧ (slotOf s k).queue = some q)
    (named : ∀ k, (slotOf s k).queued = true → (slotOf s k).queue ≠ none ∧ (slotOf s k).chain ≠ [])
    (once : ∀ q, (queueList s.sched q).Nodup) : QueuesExact s :=
  ⟨listed, named, once .expedite, once .standard, once .background⟩

/-- A slot in a queue is WAITING or ACTIVE. -/
theorem Slot.queued_iff (x : Slot) : x.queued = true ↔ x.state = .waiting ∨ x.state = .active := by simp [Slot.queued]

/-- One slot changes its state between WAITING and ACTIVE, or in nothing that the queues read. -/
theorem Agrees.relabel {held : Option (Fin 32)} (h : Agrees held s) {k : Fin 32} {x : Slot} {held' : Option (Fin 32)}
    (queued : x.queued = (slotOf s k).queued) (done : x.state = .done ↔ (slotOf s k).state = .done)
    (queue : x.queue = (slotOf s k).queue) (chain : x.chain = (slotOf s k).chain)
    (active : x.state = .active ↔ held' = some k) (others : ∀ j, j ≠ k → (held' = some j ↔ held = some j)) :
    Agrees held' (setSlot k x s) := by
  obtain ⟨⟨listed, named, once⟩, ⟨single, records⟩, was⟩ := h
  have read (j : Fin 32) : (slotOf (setSlot k x s) j).queued = (slotOf s j).queued ∧
      ((slotOf (setSlot k x s) j).state = .done ↔ (slotOf s j).state = .done) ∧
      (slotOf (setSlot k x s) j).queue = (slotOf s j).queue ∧ (slotOf (setSlot k x s) j).chain = (slotOf s j).chain := by
    rw [slotOf_setSlot]
    split
    · rename_i same
      rw [same]
      exact ⟨queued, done, queue, chain⟩
    · exact ⟨rfl, .rfl, rfl, rfl⟩
  refine ⟨⟨fun q j => ?_, fun j => ?_, once⟩, ⟨single, fun j => ?_⟩, fun j => ?_⟩
  · obtain ⟨sameQueued, -, sameQueue, -⟩ := read j
    rw [sameQueued, sameQueue]
    exact listed q j
  · obtain ⟨sameQueued, -, sameQueue, sameChain⟩ := read j
    rw [sameQueued, sameQueue, sameChain]
    exact named j
  · exact (records j).trans (read j).2.1.symm
  · rw [slotOf_setSlot]
    split
    · rename_i same
      rw [same]
      exact active
    · rename_i other
      rw [was j, others j other]

/-- A slot keeps its state, tag, queue and chain. -/
theorem Agrees.kept {held : Option (Fin 32)} (h : Agrees held s) {k : Fin 32} {x : Slot} (kept : SlotKept (slotOf s k) x) :
    Agrees held (setSlot k x s) := by
  refine h.relabel ?_ ?_ kept.queue kept.chain ?_ fun _ _ => .rfl
  · simp [Slot.queued, kept.state]
  · rw [kept.state]
  · rw [kept.state]
    exact h.active k

/-- A WAITING or ACTIVE request completes; the slot is not held any more. -/
theorem Agrees.complete {held : Option (Fin 32)} (h : Agrees held s) {k : Fin 32} (queued : (slotOf s k).queued = true)
    (o : RequestOutcome) (b : Bool) {held' : Option (Fin 32)} (mine : held' ≠ some k)
    (others : ∀ j, j ≠ k → (held' = some j ↔ held = some j)) : Agrees held' (complete k o b s) := by
  obtain ⟨queues, ⟨single, records⟩, was⟩ := h
  have ⟨listed, named, _⟩ := queues
  have notDone : (slotOf s k).state ≠ .done := by
    rcases (Slot.queued_iff _).mp queued with is | is <;> simp [is]
  refine ⟨.of_lists (fun q j => ?_) (fun j => ?_) (fun q => ?_), ⟨?_, fun j => ?_⟩, fun j => ?_⟩
  · rw [queueList_complete, slotOf_complete]
    split
    · rename_i same
      simp [same, doneSlot, Slot.queued]
    · rename_i other
      simp [other, listed q j]
  · rw [slotOf_complete]
    split
    · simp [doneSlot, Slot.queued]
    · exact named j
  · rw [queueList_complete]
    exact (queues.nodup q).filter _
  · rw [complete_completions, List.map_append, List.nodup_append]
    refine ⟨single, by simp, fun a listed b new same => ?_⟩
    have isK : b = k := by simpa [recordOf] using new
    rw [same, isK, records] at listed
    exact notDone listed
  · rw [complete_completions, List.map_append, List.mem_append, records, slotOf_complete]
    split
    · rename_i same
      simp [same, doneSlot, recordOf]
    · rename_i other
      simp [recordOf, other]
  · rw [slotOf_complete]
    split
    · rename_i same
      simp [same, doneSlot, mine]
    · rename_i other
      rw [was j, others j other]

/-- A WAITING request completes. -/
theorem Agrees.completeWaiting {held : Option (Fin 32)} (h : Agrees held s) {k : Fin 32}
    (waiting : (slotOf s k).state = .waiting) (o : RequestOutcome) (b : Bool) : Agrees held (Machine.complete k o b s) := by
  refine h.complete ((Slot.queued_iff _).mpr (.inl waiting)) o b (fun mine => ?_) fun _ _ => .rfl
  have active := (h.active k).mpr mine
  simp [waiting] at active

/-- The held request completes, and is held no more. -/
theorem Agrees.completeActive {k : Fin 32} (h : Agrees (some k) s) (o : RequestOutcome) (b : Bool) :
    Agrees none (Machine.complete k o b s) := by
  refine h.complete ((Slot.queued_iff _).mpr (.inr ((h.active k).mpr rfl))) o b (by simp) fun j other => ?_
  simp [Ne.symm other]

/-- The held request returns to WAITING, and is held no more (R106). -/
theorem Agrees.returnWaiting {k : Fin 32} (h : Agrees (some k) s) : Agrees none (returnWaiting k s) := by
  have active : (slotOf s k).state = .active := (h.active k).mpr rfl
  refine h.relabel ?_ ?_ rfl rfl ?_ fun j other => ?_
  · simp [Slot.queued, active]
  · simp [active]
  · simp
  · simp [Ne.symm other]

/-- A WAITING request becomes ACTIVE, and is held (R53). -/
theorem Agrees.activate (h : Agrees none s) {k : Fin 32} (waiting : (slotOf s k).state = .waiting) :
    Agrees (some k) (setSlot k { slotOf s k with state := .active, framesDone := 0 } s) := by
  refine h.relabel ?_ ?_ rfl rfl ?_ fun j other => ?_
  · simp [Slot.queued, waiting]
  · simp [waiting]
  · simp
  · simp [Ne.symm other]

end

/-! ### The end of an attempt (R104, R105) -/

/-- An attempt ends in one of two ways: the request completes or returns to WAITING, with its counts of attempts changed or not. -/
theorem attemptEnd_cases (k : Fin 32) (r : FrameResult) (won : Bool) (s : State) :
    ∃ x, SlotKept (slotOf s k) x ∧
      ((∃ o b, attemptEnd k r won s = complete k o b (setSlot k x s)) ∨
        attemptEnd k r won s = returnWaiting k (setSlot k x s)) := by
  have returns {x : Slot} (kept : SlotKept (slotOf s k) x) {t : State} (eq : t = returnOrExpire k (setSlot k x s)) :
      ∃ x, SlotKept (slotOf s k) x ∧
        ((∃ o b, t = complete k o b (setSlot k x s)) ∨ t = returnWaiting k (setSlot k x s)) := by
    refine ⟨x, kept, ?_⟩
    unfold returnOrExpire at eq
    split at eq
    · exact .inl ⟨_, _, eq⟩
    · exact .inr eq
  have same : SlotKept (slotOf s k) (slotOf s k) := ⟨rfl, rfl, rfl, rfl⟩
  have completes (o : RequestOutcome) (b : Bool) : ∃ x, SlotKept (slotOf s k) x ∧
      ((∃ o' b', complete k o b s = complete k o' b' (setSlot k x s)) ∨
        complete k o b s = returnWaiting k (setSlot k x s)) :=
    ⟨_, same, .inl ⟨o, b, by rw [setSlot_self]⟩⟩
  unfold attemptEnd
  split
  · unfold arbLostEnd
    dsimp only
    have kept : SlotKept (slotOf s k) { slotOf s k with arbLosses := min 255 ((slotOf s k).arbLosses + 1) } :=
      ⟨rfl, rfl, rfl, rfl⟩
    split
    · exact ⟨_, kept, .inl ⟨_, _, rfl⟩⟩
    · exact returns kept rfl
  · unfold tableEnd
    dsimp only
    split; · exact completes _ _
    split; · exact completes _ _
    split
    · split
      · exact returns (x := { slotOf s k with attempts := (slotOf s k).attempts - 1 }) ⟨rfl, rfl, rfl, rfl⟩ rfl
      · exact returns same (by rw [setSlot_self])
    split; · exact completes _ _
    split; · exact completes _ _
    split
    · exact returns same (by rw [setSlot_self])
    · exact completes _ _

theorem Agrees.attemptEnd {s : State} {k : Fin 32} (h : Agrees (some k) s) (r : FrameResult) (won : Bool) :
    Agrees none (attemptEnd k r won s) := by
  obtain ⟨x, kept, ⟨o, b, eq⟩ | eq⟩ := attemptEnd_cases k r won s
  · rw [eq]
    exact (h.kept kept).completeActive o b
  · rw [eq]
    exact (h.kept kept).returnWaiting

/-! ### The flush (R70) -/

/-- WAITING requests, each once, complete one after another. -/
theorem Agrees.completeAll {held : Option (Fin 32)} {l : List (Fin 32)} : ∀ {s : State}, Agrees held s → l.Nodup →
    (∀ k ∈ l, (slotOf s k).state = .waiting) → Agrees held (completeAll l s) := by
  induction l with
  | nil => intro s h _ _; exact h
  | cons k rest ih =>
    intro s h once waiting
    rw [List.nodup_cons] at once
    refine ih (h.completeWaiting (waiting k (by simp)) _ _) once.2 fun j mem => ?_
    have other : j ≠ k := fun same => once.1 (same ▸ mem)
    rw [slotOf_complete, if_neg other]
    exact waiting j (by simp [mem])

/-- No slot is listed twice, in one queue or in two. -/
theorem QueuesExact.nodup_all {s : State} (h : QueuesExact s) : (s.sched.exp ++ s.sched.std ++ s.sched.bkg).Nodup := by
  obtain ⟨listed, -, exp, std, bkg⟩ := h
  have apart {p q : QueueName} (ne : p ≠ q) {k : Fin 32} (inP : k ∈ queueList s.sched p) (inQ : k ∈ queueList s.sched q) :
      False := by
    have first := ((listed p k).mp inP).2
    rw [((listed q k).mp inQ).2, Option.some.injEq] at first
    exact ne first.symm
  rw [List.nodup_append, List.nodup_append]
  refine ⟨⟨exp, std, fun a inExp b inStd same => ?_⟩, bkg, fun a mem b inBkg same => ?_⟩
  · exact apart (p := .expedite) (q := .standard) (by decide) inExp (same ▸ inStd)
  · rcases List.mem_append.mp mem with inExp | inStd
    · exact apart (p := .expedite) (q := .background) (by decide) inExp (same ▸ inBkg)
    · exact apart (p := .standard) (q := .background) (by decide) inStd (same ▸ inBkg)

theorem mem_flushList {s : State} {a : Byte} {k : Fin 32} : k ∈ flushList a s ↔
    k ∈ s.sched.exp ++ s.sched.std ++ s.sched.bkg ∧ (slotOf s k).state = .waiting ∧ names (slotOf s k).chain a = true := by
  simp only [flushList, List.mem_filter, Bool.and_eq_true, beq_iff_eq]

theorem Agrees.flush {held : Option (Fin 32)} {s : State} (h : Agrees held s) (a : Byte) : Agrees held (flush a s) := by
  refine h.completeAll (h.queues.nodup_all.filter _) fun k mem => ?_
  exact (mem_flushList.mp mem).2.1

theorem Agrees.endAttempt {s : State} {k : Fin 32} (h : Agrees (some k) s) (r : FrameResult) (a : Byte) (b : Bool) :
    Agrees none (endAttempt k r a b s) := by
  unfold Machine.endAttempt
  dsimp only
  split
  · exact (h.attemptEnd r _).flush a
  · exact h.attemptEnd r _

/-! ### A frame result (R93) -/

theorem nodeResult_store (r : FrameResult) (a : Byte) (s : State) : (nodeResult r a s).store = s.store := by
  unfold nodeResult
  dsimp only
  split <;> rfl

theorem nodeResult_lists (r : FrameResult) (a : Byte) (s : State) :
    (nodeResult r a s).sched = s.sched ∧ (nodeResult r a s).completions = s.completions := by
  unfold nodeResult
  dsimp only
  split <;> exact ⟨rfl, rfl⟩

theorem Agrees.nodeResult {held : Option (Fin 32)} {s : State} (h : Agrees held s) (r : FrameResult) (a : Byte) :
    Agrees held (nodeResult r a s) := by
  obtain ⟨sched, completions⟩ := nodeResult_lists r a s
  exact h.of_read (slotOf_of_store (nodeResult_store r a s)) (fun q => by rw [sched]) completions

/-- A READ that is accepted fills its region; its slot keeps the rest (R89, R93). -/
theorem acceptFrame_kept (k : Fin 32) (i : Nat) (f : Frame) (s : State) :
    ∃ x, SlotKept (slotOf s k) x ∧ acceptFrame k i f s = setSlot k x s := by
  refine ⟨_, ?_, rfl⟩
  exact ⟨rfl, rfl, rfl, rfl⟩

/-- The result at the slot and the node changes one slot in nothing but its counts and its data. -/
theorem resultTaken_slot (r : FrameResult) (k : Fin 32) (f : Frame) (s : State) :
    ∃ x, SlotKept (slotOf s k) x ∧ resultTaken r k f s = nodeResult r f.dest (setSlot k x s) := by
  unfold resultTaken
  split
  · obtain ⟨x, kept, eq⟩ := acceptFrame_kept k s.engine.frameIndex f s
    exact ⟨x, kept, by rw [eq]⟩
  · exact ⟨slotOf s k, ⟨rfl, rfl, rfl, rfl⟩, by rw [setSlot_self]⟩

theorem Agrees.resultTaken {held : Option (Fin 32)} {s : State} (h : Agrees held s) (r : FrameResult) (k : Fin 32)
    (f : Frame) : Agrees held (resultTaken r k f s) := by
  obtain ⟨x, kept, eq⟩ := resultTaken_slot r k f s
  rw [eq]
  exact (h.kept kept).nodeResult r f.dest

theorem chains_setSlot {s : State} {k : Fin 32} {x : Slot} (kept : x.chain = (slotOf s k).chain) :
    chains (setSlot k x s) = chains s := by
  funext j
  unfold chains
  rw [slotOf_setSlot]
  split
  · rename_i same
    rw [kept, same]
  · rfl

theorem chains_resultTaken (r : FrameResult) (k : Fin 32) (f : Frame) (s : State) :
    chains (resultTaken r k f s) = chains s := by
  obtain ⟨x, kept, eq⟩ := resultTaken_slot r k f s
  rw [eq, ← chains_setSlot kept.chain]
  funext j
  unfold chains
  rw [slotOf_of_store (nodeResult_store r f.dest _)]

/-- Values with no slot held fit, outside the phases and with the IDLE values where it is idle. -/
theorem EngineFits.of_free {e : Engine} {c : Fin 32 → List Frame} (held : e.held = none)
    (idle : e.st = .idle → e = e.idled) (st : e.st ≠ .stopping → ¬ e.phase.ofStop ∧ e.phase ≠ .condFirst) :
    EngineFits e c := by
  refine ⟨fun k h => by simp [held] at h, idle, fun stops => ?_, fun cond => ?_⟩
  · exact Classical.byContradiction fun other => (st other).1 stops
  · exact Classical.byContradiction fun other => (st fun is => other (.inr is)).2 cond

/-- Where the engine goes when its attempt has ended, it holds no slot, and its values fit (R93). -/
theorem engineAfter_fits (r : FrameResult) (s : State) :
    (engineAfter r s).engine.held = none ∧ ∀ c, EngineFits (engineAfter r s).engine c := by
  have idles : (engineToIdle s).engine.held = none ∧ ∀ c, EngineFits (engineToIdle s).engine c := by
    rw [engineToIdle_engine]
    exact ⟨rfl, fun c => .of_free rfl (fun _ => rfl) fun _ => by simp [Engine.idled, Engine.reset, ClockPhase.ofStop]⟩
  cases r with
  | arbLost => exact idles
  | busStuck => exact idles
  | busFault =>
    exact ⟨rfl, fun c => .of_free rfl (fun h => nomatch h) fun _ => by simp [engineAfter, ClockPhase.ofStop]⟩
  | _ => exact ⟨rfl, fun c => .of_free rfl (fun h => nomatch h) fun h => absurd rfl h⟩

theorem Agrees.of_requests {held : Option (Fin 32)} {s t : State} (h : Agrees held s) (store : t.store = s.store)
    (sched : t.sched = s.sched) (completions : t.completions = s.completions) : Agrees held t :=
  h.of_read (slotOf_of_store store) (fun q => by rw [sched]) completions

theorem engineToIdle_requests (s : State) : (engineToIdle s).store = s.store ∧ (engineToIdle s).sched = s.sched ∧
    (engineToIdle s).nodes = s.nodes ∧ (engineToIdle s).completions = s.completions := by
  unfold engineToIdle
  dsimp only
  split <;> exact ⟨rfl, rfl, rfl, rfl⟩

theorem engineAfter_requests (r : FrameResult) (s : State) : (engineAfter r s).store = s.store ∧
    (engineAfter r s).sched = s.sched ∧ (engineAfter r s).nodes = s.nodes ∧
    (engineAfter r s).completions = s.completions := by
  cases r with
  | arbLost => exact engineToIdle_requests s
  | busStuck => exact engineToIdle_requests s
  | _ => exact ⟨rfl, rfl, rfl, rfl⟩

/-- An engine that holds a slot and fits runs a frame of its chain. -/
theorem EngineFits.runs {s : State} (h : EngineFits s.engine (chains s)) {k : Fin 32} (held : s.engine.held = some k) :
    ∃ f, Runs s k f := by
  obtain ⟨-, below⟩ := h.inFrame k held
  exact ⟨_, held, List.getElem?_eq_getElem below⟩

/-- After a result the request that was held is at its end or goes on in LINKING (R93, R94). -/
theorem reportResult_consistent {r : FrameResult} {s : State} (h : RequestsConsistent s)
    (atHigh : r = .accepted → s.engine.phase = .high) : RequestsConsistent (reportResult r s) := by
  rw [requestsConsistent_iff] at h ⊢
  obtain ⟨agrees, fits⟩ := h
  have ends {u : State} (agrees : Agrees none u) : Agrees (engineAfter r u).engine.held (engineAfter r u) ∧
      EngineFits (engineAfter r u).engine (chains (engineAfter r u)) := by
    obtain ⟨held, fits⟩ := engineAfter_fits r u
    obtain ⟨store, sched, -, completions⟩ := engineAfter_requests r u
    rw [held]
    exact ⟨agrees.of_requests store sched completions, fits _⟩
  cases held : s.engine.held with
  | none =>
    rw [reportResult_no_frame fun k f runs => by simp [Runs, held] at runs]
    exact ends (held ▸ agrees)
  | some k =>
    obtain ⟨f, runs⟩ := fits.runs held
    have taken : Agrees (some k) (resultTaken r k f s) := (held ▸ agrees).resultTaken r k f
    rw [reportResult_frame_run runs]
    split
    · rename_i links
      obtain ⟨accepted, wanted⟩ := links
      have engine := resultTaken_engine r k f s
      have high : (resultTaken r k f s).engine.phase = .high := by rw [engine]; exact atHigh accepted
      have sameHeld : (resultTaken r k f s).engine.held = some k := by rw [engine, held]
      have linked : (linkNext k (resultTaken r k f s)).engine.held = some k := sameHeld
      have next : s.engine.frameIndex + 1 < (slotOf (resultTaken r k f s) k).chain.length := by
        simp only [restartWanted, Bool.and_eq_true, decide_eq_true_eq] at wanted
        exact wanted.1.1
      refine ⟨?_, ⟨fun j same => ⟨rfl, ?_⟩, fun idle => (nomatch idle), fun stops => ?_, fun _ => .inl rfl⟩⟩
      · rw [linked]
        exact taken.of_requests rfl rfl rfl
      · rw [linked, Option.some.injEq] at same
        subst same
        show (resultTaken r k f s).engine.frameIndex + 1 < (slotOf (resultTaken r k f s) k).chain.length
        rw [engine]
        exact next
      · have phase : (linkNext k (resultTaken r k f s)).engine.phase = .high := high
        simp [phase, ClockPhase.ofStop] at stops
    · exact ends (taken.endAttempt r f.dest _)

/-! ### Every move -/

theorem RequestsConsistent.of_read {s t : State} (h : RequestsConsistent s) (slots : ∀ k, slotOf t k = slotOf s k)
    (queues : ∀ q, queueList t.sched q = queueList s.sched q) (completions : t.completions = s.completions)
    (engine : t.engine = s.engine) : RequestsConsistent t := by
  rw [requestsConsistent_iff] at h ⊢
  obtain ⟨agrees, fits⟩ := h
  have sameChains : chains t = chains s := by
    funext k
    unfold chains
    rw [slots]
  rw [engine, sameChains]
  exact ⟨agrees.of_read slots queues completions, fits⟩

theorem SameRequests.consistent {s t : State} (same : SameRequests s t) (h : RequestsConsistent s) : RequestsConsistent t :=
  h.of_read (slotOf_of_store same.store) (queueList_of_lists same.exp same.std same.bkg) same.completions same.engine

theorem SameCore.requests {s t : State} (h : SameCore s t) : SameRequests s t :=
  ⟨h.store, h.exp, h.std, h.bkg, h.nodes, h.engine, h.completions⟩

/-- A LOCAL_TARGET disposal, a CANCEL or an expiry of a WAITING request. -/
theorem complete_consistent {s : State} (h : RequestsConsistent s) {k : Fin 32} (waiting : (slotOf s k).state = .waiting)
    (o : RequestOutcome) (b : Bool) : RequestsConsistent (complete k o b s) := by
  rw [requestsConsistent_iff] at h ⊢
  obtain ⟨agrees, fits⟩ := h
  refine ⟨agrees.completeWaiting waiting o b, ?_⟩
  have sameChains : chains (complete k o b s) = chains s := by
    funext j
    unfold chains
    rw [slotOf_complete]
    split
    · rename_i same
      rw [same]
      rfl
    · rfl
  rw [sameChains]
  exact fits

/-- The pass counters are not read by the agreement. -/
theorem queueList_updatePasses (s : State) (q p : QueueName) :
    queueList (updatePasses s q) p = queueList s.sched p := by
  cases q <;> cases p <;> rfl

/-- A request that is chosen is held, ACTIVE, at frame 0 (R53, R79). -/
theorem activate_consistent {s : State} (h : RequestsConsistent s) {q : QueueName} {k : Fin 32}
    (opened : choiceOpen s = true) (waiting : (slotOf s k).state = .waiting) : RequestsConsistent (activate q k s) := by
  rw [requestsConsistent_iff] at h ⊢
  obtain ⟨agrees, fits⟩ := h
  simp only [choiceOpen, Bool.and_eq_true, beq_iff_eq] at opened
  have free : s.engine.held = none := by
    rw [fits.idle opened.1.1]
    rfl
  rw [free] at agrees
  obtain ⟨-, some_⟩ := agrees.queues.2.1 k ((Slot.queued_iff _).mpr (.inl waiting))
  have active := Agrees.activate (s := s.setSched (updatePasses s q))
    (agrees.of_read (fun _ => rfl) (queueList_updatePasses s q) rfl) waiting
  refine ⟨active.of_requests rfl rfl rfl, ⟨fun j held => ⟨rfl, ?_⟩, fun idle => (nomatch idle),
    fun stops => by simp [activate, engineTake, ClockPhase.ofStop] at stops,
    fun cond => by simp [activate, engineTake] at cond⟩⟩
  have chain : chains (activate q k s) j = (slotOf s j).chain := by
    have eq := congrFun (chains_setSlot (s := s) (k := k) (x := { slotOf s k with state := .active, framesDone := 0 }) rfl) j
    exact eq
  rw [chain]
  have isK : j = k := by
    have same : some k = some j := held
    exact (Option.some.inj same).symm
  rw [isK]
  exact List.length_pos_iff.mpr some_

theorem choose_consistent {s : State} (h : RequestsConsistent s) : RequestsConsistent (choose s) :=
  choose_induction (I := RequestsConsistent) (fun _ => id) (fun _ _ h waiting => complete_consistent h waiting _ _)
    (fun _ _ _ h opened waiting _ => activate_consistent h opened waiting) h

/-- What a request is placed by: its slot, its queue, and nothing else that the agreement reads (R38, R39). -/
theorem slotOf_placeRequest (k j : Fin 32) (q : QueueName) (c : List Frame) (s : State) :
    slotOf (placeRequest k q c s) j =
      if j = k then allocatedSlot (assignTag s) q (staged s).prio c (payloadBytes s.edit) else slotOf s j :=
  slotOf_setSlot k j _ s

theorem queueList_placeRequest (k : Fin 32) (q p : QueueName) (c : List Frame) (s : State) :
    queueList (placeRequest k q c s).sched p = if p = q then queueList s.sched q ++ [k] else queueList s.sched p := by
  rw [← queueList_appendQueue]
  cases p <;> rfl

theorem placeRequest_consistent {s : State} (h : RequestsConsistent s) {q : QueueName} {c : List Frame} {k : Fin 32}
    (passed : submitCheck s = .passed q c k) : RequestsConsistent (placeRequest k q c s) := by
  obtain ⟨-, -, free, -⟩ := submitCheck_passed passed
  obtain ⟨chain, -⟩ := placed_chain passed
  rw [requestsConsistent_iff] at h ⊢
  obtain ⟨⟨queues, ⟨single, records⟩, active⟩, fits⟩ := h
  have ⟨listed, named, _⟩ := queues
  have notListed (p : QueueName) : k ∉ queueList s.sched p := fun mem => by
    simpa [Slot.queued, free] using ((listed p k).mp mem).1
  refine ⟨⟨.of_lists (fun p j => ?_) (fun j => ?_) (fun p => ?_), ⟨single, fun j => ?_⟩, fun j => ?_⟩, ?_⟩
  · rw [queueList_placeRequest, slotOf_placeRequest]
    by_cases mine : j = k
    · subst mine
      by_cases into : p = q
      · simp [into, allocatedSlot, Slot.queued]
      · simp [into, notListed p, allocatedSlot, Ne.symm into]
    · by_cases into : p = q
      · simp [into, mine, listed q j]
      · simp [into, mine, listed p j]
  · rw [slotOf_placeRequest]
    split
    · exact fun _ => ⟨by simp [allocatedSlot], chain⟩
    · exact named j
  · rw [queueList_placeRequest]
    split
    · exact List.nodup_append.mpr ⟨queues.nodup q, by simp, fun a mem b new same => by
        rw [List.mem_singleton.mp new] at same
        exact notListed q (same ▸ mem)⟩
    · exact queues.nodup p
  · rw [slotOf_placeRequest]
    refine (records j).trans ?_
    split
    · rename_i mine
      simp [mine, free, allocatedSlot]
    · rfl
  · rw [show (placeRequest k q c s).engine = s.engine from rfl, slotOf_placeRequest]
    split
    · rename_i mine
      have notActive : s.engine.held ≠ some k := fun held => by simpa [free] using (active k).mpr held
      simpa [mine, allocatedSlot] using notActive
    · exact active j
  · refine ⟨fun j held => ?_, fits.idle, fits.ofStop, fits.ofCondition⟩
    obtain ⟨inFrame, below⟩ := fits.inFrame j held
    have other : j ≠ k := fun mine => by
      have isActive := (active j).mpr held
      simp [mine, free] at isActive
    refine ⟨inFrame, ?_⟩
    unfold chains
    rw [slotOf_placeRequest, if_neg other]
    exact below

/-- A record leaves with its slot (R119). -/
theorem pop_consistent {s : State} (h : RequestsConsistent s) {r : CompletionRecord} {rest : List CompletionRecord}
    (head : s.completions = r :: rest) : RequestsConsistent (setSlot r.slot Slot.free (s.setCompletions rest)) := by
  rw [requestsConsistent_iff] at h ⊢
  obtain ⟨⟨queues, ⟨single, records⟩, active⟩, fits⟩ := h
  have ⟨listed, named, once⟩ := queues
  rw [head, List.map_cons, List.nodup_cons] at single
  have done : (slotOf s r.slot).state = .done := (records r.slot).mp (by simp [head])
  have read (j : Fin 32) : slotOf (setSlot r.slot Slot.free (s.setCompletions rest)) j =
      if j = r.slot then Slot.free else slotOf s j := slotOf_setSlot _ _ _ _
  refine ⟨⟨⟨fun q j => ?_, fun j => ?_, once⟩, ⟨single.2, fun j => ?_⟩, fun j => ?_⟩, ?_⟩
  · refine (listed q j).trans ?_
    rw [read]
    split
    · rename_i mine
      simp [mine, Slot.queued, done, Slot.free]
    · rfl
  · rw [read]
    split
    · simp [Slot.queued, Slot.free]
    · exact named j
  · rw [show (setSlot r.slot Slot.free (s.setCompletions rest)).completions = rest from rfl, read]
    have was := records j
    rw [head, List.map_cons, List.mem_cons] at was
    split
    · rename_i mine
      rw [mine]
      simpa [Slot.free] using single.1
    · rename_i other
      simpa [other] using was
  · rw [show (setSlot r.slot Slot.free (s.setCompletions rest)).engine = s.engine from rfl, read]
    split
    · rename_i mine
      have notActive : s.engine.held ≠ some r.slot := fun held => by simpa [done] using (active r.slot).mpr held
      simpa [mine, Slot.free] using notActive
    · exact active j
  · refine ⟨fun j held => ?_, fits.idle, fits.ofStop, fits.ofCondition⟩
    obtain ⟨inFrame, below⟩ := fits.inFrame j held
    have other : j ≠ r.slot := fun mine => by
      have isActive := (active j).mpr held
      simp [mine, done] at isActive
    refine ⟨inFrame, ?_⟩
    unfold chains
    rw [read, if_neg other]
    exact below

/-- The engine goes on with its slot and its frame. -/
theorem engineStep_consistent {s : State} (h : RequestsConsistent s) {e : Engine} (goesOn : EngineStep s.engine e) :
    RequestsConsistent (s.setEngine e) := by
  rw [requestsConsistent_iff] at h ⊢
  obtain ⟨agrees, fits⟩ := h
  have sameHeld : (s.setEngine e).engine.held = s.engine.held := goesOn.held
  rw [sameHeld]
  refine ⟨agrees.of_requests rfl rfl rfl, ⟨fun k held => ?_, fun idle => ?_, fun stops => ?_, fun cond => ?_⟩⟩
  · obtain ⟨inFrame, below⟩ := fits.inFrame k (sameHeld ▸ held)
    refine ⟨(goesOn.inFrame inFrame).resolve_right fun stops => ?_, ?_⟩
    · simp [fits.ofStop (.inl stops), EngineState.inFrame] at inFrame
    · show e.frameIndex < _
      rw [goesOn.frameIndex]
      exact below
  · have idled := fits.idle (goesOn.leaves idle)
    show e = e.idled
    rw [goesOn.stays idled]
    exact idled
  · rcases goesOn.ofStop stops with is | ⟨was, st⟩ | ⟨cond, notLinking, st⟩
    · exact is
    · exact st.trans (fits.ofStop was)
    · exact st.trans ((fits.ofCondition cond).resolve_left notLinking)
  · rcases goesOn.ofCondition cond with is | is | ⟨was, st⟩
    · exact .inl is
    · exact .inr is
    · exact (fits.ofCondition was).imp st.trans st.trans

theorem RequestMove.consistent {s t : State} (m : RequestMove s t) (h : RequestsConsistent s) : RequestsConsistent t := by
  cases m with
  | choice => exact choose_consistent h
  | place q c k passed => exact placeRequest_consistent h passed
  | completeWaiting k o waiting => exact complete_consistent h waiting o false
  | slot k x kept =>
    rw [requestsConsistent_iff] at h ⊢
    rw [chains_setSlot kept.chain]
    exact ⟨h.1.kept kept, h.2⟩
  | pop r rest head => exact pop_consistent h head
  | engine e goesOn => exact engineStep_consistent h goesOn
  | entries | createEntry | removeEntry => exact h.of_read (fun _ => rfl) (fun _ => rfl) rfl rfl

theorem EngineMove.consistent {s t : State} (m : EngineMove s t) (h : RequestsConsistent s) : RequestsConsistent t := by
  cases m with
  | report r busy atHigh => exact reportResult_consistent h atHigh
  | toIdle outside =>
    rw [requestsConsistent_iff] at h ⊢
    obtain ⟨agrees, fits⟩ := h
    have free : s.engine.held = none := by
      refine Classical.byContradiction fun holds => ?_
      obtain ⟨k, held⟩ := Option.ne_none_iff_exists'.mp holds
      simp [(fits.inFrame k held).1] at outside
    obtain ⟨store, sched, -, completions⟩ := engineToIdle_requests s
    rw [engineToIdle_engine]
    exact ⟨(free ▸ agrees).of_requests store sched completions,
      .of_free rfl (fun _ => rfl) fun _ => by simp [Engine.idled, Engine.reset, ClockPhase.ofStop]⟩

theorem engineStuck_moves_consistent {s : State} (h : RequestsConsistent s) : RequestsConsistent (engineStuck s) := by
  unfold engineStuck
  split
  · exact reportResult_consistent h (by simp)
  · rename_i outside
    split
    · exact h
    · exact (EngineMove.toIdle (by simpa using outside)).consistent h

/-- The port's own moves leave the requests alone, but for the engine at a stuck line. -/
theorem PortMove.requests {s t : State} (m : PortMove s t) :
    SameRequests s t ∨ ∃ u, SameRequests s u ∧ t = engineStuck u := by
  have off (u : State) (same : SameRequests s u) : SameRequests s (responderOff u) := by
    have frame := responderOff_frame u
    exact ⟨frame.store.trans same.store, by rw [frame.sched, same.exp], by rw [frame.sched, same.std],
      by rw [frame.sched, same.bkg], frame.nodes.trans same.nodes, frame.engine.trans same.engine,
      frame.completions.trans same.completions⟩
  cases m with
  | disable => exact .inl (off _ (by constructor <;> rfl))
  | stop => exact .inl (off _ (by constructor <;> rfl))
  | stuck => exact .inr ⟨_, off _ (by constructor <;> rfl), rfl⟩
  | _ => exact .inl (by constructor <;> rfl)

/-- What both resets leave (R24, R30, R43, R78, R115). -/
theorem reset_consistent {s : State} (store : s.store = Store.reset) (sched : s.sched = Sched.reset)
    (completions : s.completions = []) (engine : s.engine = Engine.reset) : RequestsConsistent s := by
  have free (k : Fin 32) : slotOf s k = Slot.free := by
    unfold slotOf
    rw [store]
    exact tget_replicate _ _
  have empty (q : QueueName) : queueList s.sched q = [] := by
    rw [sched]
    cases q <;> rfl
  rw [requestsConsistent_iff, engine]
  refine ⟨⟨.of_lists (fun q k => ?_) (fun k => ?_) (fun q => ?_), ⟨?_, fun k => ?_⟩, fun k => ?_⟩, ?_⟩
  · simp [empty, free, Slot.free, Slot.queued]
  · simp [free, Slot.free, Slot.queued]
  · simp [empty]
  · simp [completions]
  · simp [completions, free, Slot.free]
  · simp [free, Slot.free, Engine.reset]
  · exact .of_free rfl (fun _ => rfl) fun _ => by simp [Engine.reset, ClockPhase.ofStop]

theorem Move.consistent {s t : State} (m : Move s t) (h : RequestsConsistent s) : RequestsConsistent t := by
  cases m with
  | same core => exact core.requests.consistent h
  | request m => exact m.consistent h
  | engine m => exact m.consistent h
  | remote m => exact m.requests.1.consistent h
  | port m =>
    rcases m.requests with same | ⟨u, same, rfl⟩
    · exact same.consistent h
    · exact engineStuck_moves_consistent (same.consistent h)
  | softReset eq => exact reset_consistent (by rw [eq]; rfl) (by rw [eq]; rfl) (by rw [eq]; rfl) (by rw [eq]; rfl)
  | hardReset a b c eq => exact reset_consistent (by rw [eq]; rfl) (by rw [eq]; rfl) (by rw [eq]; rfl) (by rw [eq]; rfl)

/-- Settles O50: by the moves of the request side and of the engine. -/
theorem requestsStayConsistent : Obligations.RequestsStayConsistent :=
  fun _ _ consistent next => step_keeps (I := RequestsConsistent) Move.consistent (fun _ _ h => h) next consistent

end Sys2Proof.Machine

/-! A completion and the suspension flush (R70, R111 to R113): what several completions leave to be read. -/

namespace Sys2Proof.Machine

/-! ### Several completions, one after another -/

theorem slotOf_completeAll (j : Fin 32) (l : List (Fin 32)) : ∀ s : State, l.Nodup →
    slotOf (completeAll l s) j = if j ∈ l then doneSlot (slotOf s j) .nodeSuspended false else slotOf s j := by
  induction l with
  | nil => intro s _; simp [completeAll]
  | cons k rest ih =>
    intro s once
    rw [List.nodup_cons] at once
    simp only [completeAll, ih _ once.2, slotOf_complete, List.mem_cons]
    by_cases mine : j = k
    · simp [mine, once.1]
    · simp [mine]

theorem timerOf_completeAll (j : Fin 32) (l : List (Fin 32)) : ∀ s : State,
    timerOf (completeAll l s) j = if j ∈ l then .off else timerOf s j := by
  induction l with
  | nil => intro s; simp [completeAll]
  | cons k rest ih =>
    intro s
    simp only [completeAll, ih, timerOf_complete, List.mem_cons]
    by_cases mine : j = k <;> simp [mine]

theorem queueList_completeAll (q : QueueName) (l : List (Fin 32)) : ∀ s : State,
    queueList (completeAll l s).sched q = (queueList s.sched q).filter fun k => decide (k ∉ l) := by
  induction l with
  | nil => exact fun _ => (List.filter_eq_self.mpr fun _ _ => by simp).symm
  | cons k rest ih =>
    intro s
    simp only [completeAll, ih, queueList_complete, List.filter_filter, List.mem_cons]
    refine List.filter_congr fun j _ => ?_
    by_cases mine : j = k <;> simp [mine]

/-- The record of a WAITING request that completes without a failed frame (R112). -/
def flushRecord (s : State) (k : Fin 32) : CompletionRecord where
  slot := k
  tag := (slotOf s k).tag.getD 0
  outcome := .nodeSuspended
  framesDone := 0
  failIndex := none
  failNode := none
  attempts := (slotOf s k).attempts
  arbLosses := (slotOf s k).arbLosses
  dataLength := ((slotOf s k).chain.map Frame.length).sum

theorem completeAll_completions (l : List (Fin 32)) : ∀ s : State, l.Nodup → (∀ k ∈ l, (slotOf s k).state = .waiting) →
    (completeAll l s).completions = s.completions ++ l.map (flushRecord s) := by
  induction l with
  | nil => intro s _ _; simp [completeAll]
  | cons k rest ih =>
    intro s once waiting
    rw [List.nodup_cons] at once
    have other {j : Fin 32} (mem : j ∈ rest) :
        slotOf (complete k .nodeSuspended false s) j = slotOf s j := by
      have ne : j ≠ k := fun same => once.1 (same ▸ mem)
      rw [slotOf_complete, if_neg ne]
    have first : recordOf k (doneSlot (slotOf s k) .nodeSuspended false) .nodeSuspended = flushRecord s k := by
      simp [recordOf, doneSlot, flushRecord, waiting k (by simp), chainLength]
    have others : rest.map (flushRecord (complete k .nodeSuspended false s)) = rest.map (flushRecord s) :=
      List.map_congr_left fun j mem => by simp only [flushRecord, other mem]
    rw [completeAll, ih _ once.2 fun j mem => by rw [other mem]; exact waiting j (by simp [mem]), complete_completions,
      first, others]
    simp

theorem tget_completeAll_nodes (i : Fin 16) (l : List (Fin 32)) : ∀ s : State, l.Nodup →
    tget (completeAll l s).nodes i = (tget s.nodes i).map fun e =>
      { e with refs := e.refs - (l.filter fun k => names (slotOf s k).chain e.address).length } := by
  induction l with
  | nil => intro s _; simp [completeAll]
  | cons k rest ih =>
    intro s once
    rw [List.nodup_cons] at once
    have chain (j : Fin 32) : (slotOf (complete k .nodeSuspended false s) j).chain = (slotOf s j).chain := by
      rw [slotOf_complete]
      split
      · rename_i same
        rw [same]
        rfl
      · rfl
    simp only [completeAll, ih _ once.2, tget_complete_nodes, Option.map_map, chain]
    refine Option.map_congr fun e _ => ?_
    by_cases named : names (slotOf s k).chain e.address = true
    · simp [named, Nat.sub_sub, Nat.add_comm 1]
    · simp [named]

/-- The flag of an event that is set twice. -/
theorem completion_flags (f : BitVec 11) : (f ||| 0x001) ||| 0x001 = f ||| 0x001 := by
  rw [BitVec.or_assoc, BitVec.or_self]

theorem completeAll_flags (l : List (Fin 32)) : ∀ s : State, (completeAll l s).events.flags =
    if l = [] then s.events.flags else s.events.flags ||| 0x001 := by
  induction l with
  | nil => intro s; rfl
  | cons k rest ih =>
    intro s
    have once : (complete k .nodeSuspended false s).events.flags = s.events.flags ||| 0x001 := rfl
    rw [completeAll, ih, once, completion_flags]
    simp

/-- What completions leave of the blocks that they change (R111). -/
structure CompletionRest (s t : State) : Prop where
  enables : t.events.enables = s.events.enables
  tagCounter : t.store.tagCounter = s.store.tagCounter
  passStd : t.sched.passStd = s.sched.passStd
  passBkg : t.sched.passBkg = s.sched.passBkg

theorem completeAll_rest (l : List (Fin 32)) : ∀ s : State, CompletionRest s (completeAll l s) := by
  induction l with
  | nil => intro s; constructor <;> rfl
  | cons k rest ih =>
    intro s
    obtain ⟨enables, tagCounter, passStd, passBkg⟩ := ih (complete k .nodeSuspended false s)
    exact ⟨enables, tagCounter, passStd, passBkg⟩

/-! ### The flush (R70) -/

theorem flushList_nodup {s : State} (h : QueuesExact s) (a : Byte) : (flushList a s).Nodup := h.nodup_all.filter _

theorem flushList_waiting {s : State} {a : Byte} {k : Fin 32} (mem : k ∈ flushList a s) : (slotOf s k).state = .waiting :=
  (mem_flushList.mp mem).2.1

/-- A slot that stands in its own queue stands in one of the three lists. -/
theorem QueuesExact.listed {s : State} (h : QueuesExact s) {k : Fin 32} (queued : (slotOf s k).queued = true) :
    k ∈ s.sched.exp ++ s.sched.std ++ s.sched.bkg := by
  obtain ⟨q, queue⟩ := Option.ne_none_iff_exists'.mp (h.2.1 k queued).1
  have mem := (h.1 q k).mpr ⟨queued, queue⟩
  cases q with
  | expedite => exact List.mem_append_left _ (List.mem_append_left _ mem)
  | standard => exact List.mem_append_left _ (List.mem_append_right _ mem)
  | background => exact List.mem_append_right _ mem

/-- After the flush no WAITING request names the node (R70). -/
theorem flush_unnamed {s : State} (h : QueuesExact s) {a : Byte} {k : Fin 32}
    (waiting : (slotOf (flush a s) k).state = .waiting) :
    slotOf (flush a s) k = slotOf s k ∧ names (slotOf s k).chain a = false := by
  have read := slotOf_completeAll k (flushList a s) s (flushList_nodup h a)
  unfold flush at waiting ⊢
  rw [read] at waiting ⊢
  split at waiting
  · simp [doneSlot] at waiting
  · rename_i absent
    rw [if_neg absent]
    refine ⟨rfl, ?_⟩
    exact Classical.byContradiction fun named => absent (mem_flushList.mpr
      ⟨h.listed ((Slot.queued_iff _).mpr (.inl waiting)), waiting, by simpa using named⟩)

/-- Settles O20: a completion by its rule, the flush as the completions of its list. -/
theorem completionAndFlush : Obligations.CompletionAndFlush := by
  refine ⟨complete_completesAs, fun s a exact_ => ?_⟩
  have list : ((s.sched.exp ++ s.sched.std ++ s.sched.bkg).filter fun k =>
      decide ((slotOf s k).state = .waiting) && names (slotOf s k).chain a) = flushList a s :=
    List.filter_congr fun k _ => by rw [Bool.beq_eq_decide_eq]
  have once := flushList_nodup exact_ a
  have rest := completeAll_rest (flushList a s) s
  have frame := flush_frame a s
  dsimp only
  rw [list]
  refine ⟨completeAll_completions _ s once fun k => flushList_waiting, fun k mem => ⟨?done, ?off⟩,
    fun k absent => ⟨?slot, ?timer⟩, fun q => queueList_completeAll q _ s, fun k waiting f mem same => ?unnamed,
    fun i => tget_completeAll_nodes i _ s once, completeAll_flags _ s, rest.enables, rest.tagCounter, rest.passStd,
    rest.passBkg, completeAll_engine _ s, frame.line, frame.port, frame.keepsRemoteSide⟩
  case done =>
    have waiting := flushList_waiting mem
    simp [flush, slotOf_completeAll k _ s once, mem, doneSlot, waiting]
  case off => simp [flush, timerOf_completeAll, mem]
  case slot => simp [flush, slotOf_completeAll k _ s once, absent]
  case timer => simp [flush, timerOf_completeAll, absent]
  case unnamed =>
    obtain ⟨kept, unnamed⟩ := flush_unnamed exact_ waiting
    rw [kept] at mem
    have named : names (slotOf s k).chain a = true := names_iff.mpr ⟨f, mem, same⟩
    simp [named] at unnamed

end Sys2Proof.Machine

/-! A command takes its turn, answers a next state and leaves the queue of commands alone. The addresses of the Node Table (R61, R72). -/

namespace Sys2Proof.Machine

/-! ### The queue of commands -/

theorem RequestMove.pending {s t : State} (m : RequestMove s t) : t.pending = s.pending := by
  cases m with
  | choice => exact (choose_frame s).pending
  | completeWaiting k o => exact (complete_frame k o false s).pending
  | place q c k => exact (placeRequest_frame k q c s).pending
  | _ => rfl

theorem EngineMove.pending {s t : State} (m : EngineMove s t) : t.pending = s.pending := by
  cases m with
  | report r => exact (reportResult_frame r s).pending
  | toIdle => exact (engineToIdle_frame s).pending

theorem endStall_pending (c : ClaimCode) (s : State) : (endStall c s).pending = s.pending := by
  unfold endStall
  dsimp only
  split <;> rfl

theorem reevaluateStall_pending (s : State) : (reevaluateStall s).pending = s.pending := by
  unfold reevaluateStall
  split
  · split
    · rfl
    · split
      · rfl
      · exact (endStall_pending .proceed _).trans (beginFrame_frame _ s).pending
  · rfl

theorem RemoteMove.pending {s t : State} (m : RemoteMove s t) : t.pending = s.pending := by
  cases m with
  | start => exact (responderStart_frame s).pending
  | close => exact (responderClose_frame s).pending
  | rise b => exact (responderRise_frame b s).pending
  | fall => exact (responderFall_frame s).pending
  | level => exact (commitNow_frame s).pending
  | stallEnds => exact endStall_pending .busy s
  | hold i h => exact reevaluateStall_pending (setWindow i { windowOf s i with hold := h } s)
  | popNotify r rest => exact reevaluateStall_pending (s.setHold { s.hold with queue := rest })
  | counts | writeWindow | enableWindow | disableWindow | writePage => rfl

theorem PortMove.pending {s t : State} (m : PortMove s t) : t.pending = s.pending := by
  cases m with
  | disable => exact (responderOff_frame (monitorDisabled (setPortState .disabled s))).pending
  | stop => exact (responderOff_frame (setPortState .stopping s)).pending
  | stuck =>
    exact (engineStuck_frame (responderOff (setPortState .fault s))).pending.trans
      (responderOff_frame (setPortState .fault s)).pending
  | _ => rfl

theorem Move.pending {s t : State} (m : Move s t) : t.pending = s.pending := by
  cases m with
  | same core => exact core.pending
  | request m => exact m.pending
  | engine m => exact m.pending
  | remote m => exact m.pending
  | port m => exact m.pending
  | softReset eq => rw [eq]; rfl
  | hardReset a b c eq => rw [eq]; rfl

theorem Moves.pending {s t : State} (m : Moves s t) : t.pending = s.pending :=
  m.keep (I := fun u => u.pending = s.pending) (fun m h => m.pending.trans h) rfl

/-- Settles O1: by the definition of a step. -/
theorem stepTakesFrontCommand : Obligations.StepTakesFrontCommand := by
  intro c rest s front
  unfold step
  rw [front]
  rfl

/-- Settles O2: every command is a chain of moves, and no move touches the queue of commands. -/
theorem everyCommandCompletes : Obligations.EveryCommandCompletes := by
  intro c s
  obtain ⟨t, answer, moves⟩ := exec_moves c s
  exact ⟨t, answer, moves.pending⟩

/-! ### Entries and their addresses (R61) -/

/-- Every entry keeps its use and its address. -/
def AddressesKept (s t : State) : Prop :=
  ∀ i, (tget t.nodes i).map NodeEntry.address = (tget s.nodes i).map NodeEntry.address

theorem AddressesKept.of_nodes {s t : State} (h : t.nodes = s.nodes) : AddressesKept s t := fun i => by rw [h]

theorem AddressesKept.trans {s t u : State} (a : AddressesKept s t) (b : AddressesKept t u) : AddressesKept s u :=
  fun i => (b i).trans (a i)

theorem AddressesKept.mapNodes (p : Byte → Bool) {f : NodeEntry → NodeEntry} (kept : ∀ n, (f n).address = n.address)
    (s : State) : AddressesKept s (mapNodes p f s) := by
  intro i
  rw [tget_mapNodes, Option.map_map]
  refine Option.map_congr fun n _ => ?_
  show (if p n.address = true then f n else n).address = n.address
  split
  · exact kept n
  · rfl

theorem AddressesKept.complete (k : Fin 32) (o : RequestOutcome) (b : Bool) (s : State) :
    AddressesKept s (complete k o b s) :=
  (AddressesKept.mapNodes (names (slotOf s k).chain) (f := fun n => { n with refs := n.refs - 1 }) (fun _ => rfl) s).trans
    (.of_nodes rfl)

theorem AddressesKept.attemptEnd (k : Fin 32) (r : FrameResult) (won : Bool) (s : State) :
    AddressesKept s (attemptEnd k r won s) := by
  obtain ⟨x, -, ⟨o, b, eq⟩ | eq⟩ := attemptEnd_cases k r won s
  · rw [eq]
    exact .trans (.of_nodes rfl) (.complete k o b (setSlot k x s))
  · rw [eq]
    exact .of_nodes rfl

theorem AddressesKept.completeAll (l : List (Fin 32)) : ∀ s, AddressesKept s (completeAll l s) := by
  induction l with
  | nil => exact fun s => .of_nodes rfl
  | cons k rest ih => exact fun s => (AddressesKept.complete k .nodeSuspended false s).trans (ih _)

theorem AddressesKept.endAttempt (k : Fin 32) (r : FrameResult) (a : Byte) (b : Bool) (s : State) :
    AddressesKept s (endAttempt k r a b s) := by
  unfold Machine.endAttempt
  dsimp only
  split
  · exact (AddressesKept.attemptEnd k r _ s).trans (.completeAll _ _)
  · exact .attemptEnd k r _ s

theorem NodeEntry.takeResult_kept (r : FrameResult) (n : NodeEntry) :
    (n.takeResult r).address = n.address ∧ (n.takeResult r).refs = n.refs := by
  have either (p : Prop) [Decidable p] {a b : NodeEntry} (onA : a.address = n.address ∧ a.refs = n.refs)
      (onB : b.address = n.address ∧ b.refs = n.refs) :
      (if p then a else b).address = n.address ∧ (if p then a else b).refs = n.refs := by
    split
    · exact onA
    · exact onB
  cases r with
  | noTarget | noResponse | badCheck | waitTimeout => exact either _ ⟨rfl, rfl⟩ ⟨rfl, rfl⟩
  | accepted | refused | busy | busFault | busStuck | arbLost => exact ⟨rfl, rfl⟩

theorem nodeResult_nodes (r : FrameResult) (a : Byte) (s : State) :
    (nodeResult r a s).nodes = (mapNodes (· == a) (NodeEntry.takeResult r) s).nodes := by
  unfold nodeResult
  dsimp only
  split <;> rfl

theorem AddressesKept.nodeResult (r : FrameResult) (a : Byte) (s : State) : AddressesKept s (nodeResult r a s) :=
  (AddressesKept.mapNodes (· == a) (fun n => (n.takeResult_kept r).1) s).trans (.of_nodes (nodeResult_nodes r a s))

theorem AddressesKept.resultTaken (r : FrameResult) (k : Fin 32) (f : Frame) (s : State) :
    AddressesKept s (resultTaken r k f s) := by
  obtain ⟨x, -, eq⟩ := resultTaken_slot r k f s
  rw [eq]
  exact .trans (.of_nodes rfl) (.nodeResult r f.dest (setSlot k x s))

theorem AddressesKept.reportResult (r : FrameResult) (s : State) : AddressesKept s (reportResult r s) := by
  by_cases run : ∃ k f, Runs s k f
  · obtain ⟨k, f, runs⟩ := run
    rw [reportResult_frame_run runs]
    split
    · exact (AddressesKept.resultTaken r k f s).trans (.of_nodes rfl)
    · exact ((AddressesKept.resultTaken r k f s).trans (.endAttempt k r f.dest _ _)).trans
        (.of_nodes (engineAfter_requests r _).2.2.1)
  · rw [reportResult_no_frame fun k f runs => run ⟨k, f, runs⟩]
    exact .of_nodes (engineAfter_requests r s).2.2.1

theorem AddressesKept.choose (s : State) : AddressesKept s (choose s) :=
  choose_induction (I := AddressesKept s) (fun _ => id) (fun t k h _ => h.trans (.complete k .localTarget false t))
    (fun _ _ _ h _ _ _ => h.trans (.of_nodes rfl)) (.of_nodes rfl)

theorem AddressesKept.engineStuck (s : State) : AddressesKept s (engineStuck s) := by
  unfold Machine.engineStuck
  split
  · exact .reportResult .busStuck s
  · split
    · exact .of_nodes rfl
    · exact .of_nodes (engineToIdle_requests s).2.2.1

/-- The entry of an address that is kept is the entry of the same address. -/
theorem AddressesKept.entry {s t : State} (h : AddressesKept s t) {i : Fin 16} {n : NodeEntry}
    (used : tget t.nodes i = some n) : ∃ m, tget s.nodes i = some m ∧ m.address = n.address := by
  have same := h i
  rw [used, Option.map_some] at same
  exact Option.map_eq_some_iff.mp same.symm

theorem AddressesKept.distinct {s t : State} (h : AddressesKept s t) (distinct : NodesDistinct s) : NodesDistinct t := by
  obtain ⟨valid, once⟩ := distinct
  refine ⟨fun i n used => ?_, fun i j n m usedN usedM same => ?_⟩
  · obtain ⟨was, at_, eq⟩ := h.entry used
    rw [← eq]
    exact valid i was at_
  · obtain ⟨wasN, atN, eqN⟩ := h.entry usedN
    obtain ⟨wasM, atM, eqM⟩ := h.entry usedM
    exact once i j wasN wasM atN atM (by rw [eqN, eqM, same])

/-- No entry holds the address of an entry that is not found (R61). -/
theorem findNode_none {a : Byte} {s : State} (h : findNode a s = none) {i : Fin 16} {n : NodeEntry}
    (used : tget s.nodes i = some n) : n.address ≠ a := by
  have other := tfind_eq_none.mp h i
  rw [used] at other
  simpa [entryHolds] using other

theorem entryKept_address {e e' : Option NodeEntry} (h : EntryKept e e') :
    e'.map NodeEntry.address = e.map NodeEntry.address := by
  match e, e', h with
  | none, none, _ => rfl
  | some n, some m, h => simp [h.1]

/-- What a move does to the addresses: nothing, one new address, or one less. -/
theorem RequestMove.distinct {s t : State} (m : RequestMove s t) (h : NodesDistinct s) : NodesDistinct t := by
  obtain ⟨valid, once⟩ := h
  cases m with
  | choice => exact (AddressesKept.choose s).distinct ⟨valid, once⟩
  | completeWaiting k o => exact (AddressesKept.complete k o false s).distinct ⟨valid, once⟩
  | place q c k =>
    exact (AddressesKept.mapNodes (names c) (f := fun n => { n with refs := n.refs + 1 }) (fun _ => rfl) s).distinct
      ⟨valid, once⟩
  | entries v kept => exact AddressesKept.distinct (fun i => entryKept_address (kept i)) ⟨valid, once⟩
  | createEntry i n unused fresh validN =>
    have read (j : Fin 16) : tget (s.setNodes (tset s.nodes i (some n))).nodes j =
        if j = i then some n else tget s.nodes j := tget_tset s.nodes i j _
    refine ⟨fun j m used => ?_, fun j l a b usedA usedB same => ?_⟩
    · rw [read] at used
      split at used
      · rw [Option.some.injEq] at used
        exact used ▸ validN
      · exact valid j m used
    · rw [read] at usedA usedB
      split at usedA <;> split at usedB
      · rename_i onI alsoI
        rw [onI, alsoI]
      · rw [Option.some.injEq] at usedA
        exact absurd (usedA ▸ same.symm) (findNode_none fresh usedB)
      · rw [Option.some.injEq] at usedB
        exact absurd (usedB ▸ same) (findNode_none fresh usedA)
      · exact once j l a b usedA usedB same
  | removeEntry i n used =>
    have keptEntry {j : Fin 16} {m : NodeEntry} (used : tget (tset s.nodes i none) j = some m) :
        tget s.nodes j = some m := by
      rw [tget_tset] at used
      split at used
      · cases used
      · exact used
    exact ⟨fun j m used => valid j m (keptEntry used),
      fun j l a b usedA usedB => once j l a b (keptEntry usedA) (keptEntry usedB)⟩
  | slot | pop | engine => exact ⟨valid, once⟩

theorem Move.nodesDistinct {s t : State} (m : Move s t) (h : NodesDistinct s) : NodesDistinct t := by
  cases m with
  | same core => exact (AddressesKept.of_nodes core.nodes).distinct h
  | request m => exact m.distinct h
  | engine m =>
    cases m with
    | report r => exact (AddressesKept.reportResult r s).distinct h
    | toIdle => exact (AddressesKept.of_nodes (engineToIdle_requests s).2.2.1).distinct h
  | remote m => exact (AddressesKept.of_nodes m.requests.1.nodes).distinct h
  | port m =>
    rcases m.requests with same | ⟨u, same, rfl⟩
    · exact (AddressesKept.of_nodes same.nodes).distinct h
    · exact ((AddressesKept.of_nodes same.nodes).trans (.engineStuck u)).distinct h
  | softReset eq =>
    subst eq
    refine AddressesKept.distinct (fun i => ?_) h
    rw [tget_softResetState_nodes, Option.map_map]
    rfl
  | hardReset a b c eq =>
    subst eq
    have unused (i : Fin 16) (n : NodeEntry) : tget (Machine.hardReset a b c s).nodes i ≠ some n := by simp
    exact ⟨fun i n used => absurd used (unused i n), fun i j n m used => absurd used (unused i n)⟩

/-- Settles O54: only NODE_WRITE adds an address, and one that no entry holds; windows by the edits of the remote data. -/
theorem addressesStayDistinct : Obligations.AddressesStayDistinct :=
  ⟨fun _ _ distinct next => step_keeps (I := NodesDistinct) Move.nodesDistinct (fun _ _ h => h) next distinct,
    step_keeps_windowsDistinct⟩

end Sys2Proof.Machine

/-! What a move does to the use, the tags and the chains of the slots, and to the addresses and refs of the node entries: a chain of edits. The invariants that read only these are kept by every edit. -/

namespace Sys2Proof.Machine

/-! ### The edits -/

/-- Every slot keeps its use, its tag and its chain, and every entry its address and its refs. -/
structure RequestsKept (s t : State) : Prop where
  queued : ∀ k, (slotOf t k).queued = (slotOf s k).queued
  live : ∀ k, (slotOf t k).live = (slotOf s k).live
  tag : ∀ k, (slotOf t k).tag = (slotOf s k).tag
  chain : ∀ k, (slotOf t k).chain = (slotOf s k).chain
  counter : t.store.tagCounter = s.store.tagCounter
  entries : ∀ i, (tget t.nodes i).map (fun n => (n.address, n.refs)) = (tget s.nodes i).map (fun n => (n.address, n.refs))

/-- One change of the requests, with what guards it. -/
inductive RequestEdit (s : State) : State → Prop
  | kept {t : State} (h : RequestsKept s t) : RequestEdit s t
  | complete (k : Fin 32) (o : RequestOutcome) (b : Bool) (queued : (slotOf s k).queued = true) :
      RequestEdit s (complete k o b s)
  | place (q : QueueName) (c : List Frame) (k : Fin 32) (passed : submitCheck s = .passed q c k) :
      RequestEdit s (placeRequest k q c s)
  | free (k : Fin 32) (done : (slotOf s k).state = .done) : RequestEdit s (setSlot k Slot.free s)
  | createEntry (i : Fin 16) (n : NodeEntry) (unused : tget s.nodes i = none) (fresh : findNode n.address s = none)
      (refs : n.refs = 0) : RequestEdit s (s.setNodes (tset s.nodes i (some n)))
  | removeEntry (i : Fin 16) (n : NodeEntry) (used : tget s.nodes i = some n) (refs : n.refs = 0) :
      RequestEdit s (s.setNodes (tset s.nodes i none))
  | reset {t : State} (store : t.store = Store.reset)
      (entries : ∀ i n, tget t.nodes i = some n → n.refs = 0 ∧ n.state = .available) : RequestEdit s t

/-- A chain of edits. -/
abbrev RequestEdits : State → State → Prop := StepPath RequestEdit

theorem RequestsKept.edits {s t : State} (h : RequestsKept s t) : RequestEdits s t := .single (.kept h)

/-- What every edit keeps, a chain of edits keeps. -/
theorem RequestEdits.keep {I : State → Prop} (kept : ∀ {s t}, RequestEdit s t → I s → I t) {s t : State}
    (e : RequestEdits s t) (h : I s) : I t := by
  induction e with
  | refl => exact h
  | tail _ last ih => exact kept last ih

/-! ### What is kept -/

theorem RequestsKept.of_requests {s t : State} (store : t.store = s.store) (nodes : t.nodes = s.nodes) :
    RequestsKept s t := by
  have slots := slotOf_of_store store
  exact ⟨fun k => by rw [slots], fun k => by rw [slots], fun k => by rw [slots], fun k => by rw [slots],
    by rw [store], fun i => by rw [nodes]⟩

/-- The slots are as they were, and every entry keeps its address and its refs. -/
theorem RequestsKept.of_entries {s t : State} (store : t.store = s.store)
    (entries : ∀ i, (tget t.nodes i).map (fun n => (n.address, n.refs)) =
      (tget s.nodes i).map (fun n => (n.address, n.refs))) : RequestsKept s t :=
  { RequestsKept.of_requests (s := s) (t := t.setNodes s.nodes) store rfl with entries := entries }

theorem RequestsKept.setSlot {s : State} {k : Fin 32} {x : Slot} (queued : x.queued = (slotOf s k).queued)
    (live : x.live = (slotOf s k).live) (tag : x.tag = (slotOf s k).tag) (chain : x.chain = (slotOf s k).chain) :
    RequestsKept s (setSlot k x s) := by
  have read {α : Type} (f : Slot → α) (same : f x = f (slotOf s k)) (j : Fin 32) :
      f (slotOf (Machine.setSlot k x s) j) = f (slotOf s j) := by
    rw [slotOf_setSlot]
    split
    · rename_i mine
      rw [same, mine]
    · rfl
  exact ⟨read _ queued, read _ live, read _ tag, read _ chain, rfl, fun _ => rfl⟩

theorem RequestsKept.slot {s : State} {k : Fin 32} {x : Slot} (kept : SlotKept (slotOf s k) x) :
    RequestsKept s (Machine.setSlot k x s) :=
  .setSlot (by simp [Slot.queued, kept.state]) (by simp [Slot.live, kept.state]) kept.tag kept.chain

/-- A request that is in a queue changes between WAITING and ACTIVE. -/
theorem RequestsKept.relabel {s : State} {k : Fin 32} {x : Slot} (was : (slotOf s k).queued = true) (is : x.queued = true)
    (tag : x.tag = (slotOf s k).tag) (chain : x.chain = (slotOf s k).chain) : RequestsKept s (Machine.setSlot k x s) := by
  have live {y : Slot} (h : y.queued = true) : y.live = true := by
    rcases (Slot.queued_iff y).mp h with state | state <;> simp [Slot.live, state]
  exact .setSlot (is.trans was.symm) ((live is).trans (live was).symm) tag chain

theorem RequestsKept.nodeResult (r : FrameResult) (a : Byte) (s : State) : RequestsKept s (nodeResult r a s) := by
  refine .of_entries (nodeResult_store r a s) fun i => ?_
  rw [nodeResult_nodes, tget_mapNodes, Option.map_map]
  refine Option.map_congr fun n _ => ?_
  obtain ⟨address, refs⟩ := n.takeResult_kept r
  show (fun m : NodeEntry => (m.address, m.refs)) (if _ then _ else n) = _
  split
  · exact Prod.ext address refs
  · rfl

/-- The slots and the entries are as they were. -/
theorem RequestEdits.of_requests {s t : State} (store : t.store = s.store) (nodes : t.nodes = s.nodes) :
    RequestEdits s t := (RequestsKept.of_requests store nodes).edits

theorem RequestEdits.resultTaken (r : FrameResult) (k : Fin 32) (f : Frame) (s : State) :
    RequestEdits s (resultTaken r k f s) := by
  obtain ⟨x, kept, eq⟩ := resultTaken_slot r k f s
  rw [eq]
  exact (RequestsKept.slot kept).edits.trans (RequestsKept.nodeResult r f.dest _).edits

/-! ### The ends of an attempt -/

theorem RequestEdits.attemptEnd {s : State} {k : Fin 32} (active : (slotOf s k).state = .active) (r : FrameResult)
    (won : Bool) : RequestEdits s (attemptEnd k r won s) := by
  obtain ⟨x, kept, eq⟩ := attemptEnd_cases k r won s
  have slot : slotOf (Machine.setSlot k x s) k = x := slotOf_setSlot_same k x s
  have queued : (slotOf (Machine.setSlot k x s) k).queued = true :=
    (Slot.queued_iff _).mpr (.inr (by rw [slot, kept.state, active]))
  refine (RequestsKept.slot kept).edits.trans ?_
  rcases eq with ⟨o, b, eq⟩ | eq
  · rw [eq]
    exact .single (.complete k o b queued)
  · rw [eq]
    exact (RequestsKept.relabel (x := { slotOf (Machine.setSlot k x s) k with state := .waiting }) queued rfl rfl rfl).edits

theorem RequestEdits.completeAll {l : List (Fin 32)} : ∀ {s : State}, l.Nodup →
    (∀ k ∈ l, (slotOf s k).state = .waiting) → RequestEdits s (completeAll l s) := by
  induction l with
  | nil => intro s _ _; exact .refl
  | cons k rest ih =>
    intro s once waiting
    rw [List.nodup_cons] at once
    have queued : (slotOf s k).queued = true := (Slot.queued_iff _).mpr (.inl (waiting k (by simp)))
    refine .head (.complete k .nodeSuspended false queued) (ih once.2 fun j mem => ?_)
    have other : j ≠ k := fun same => once.1 (same ▸ mem)
    rw [slotOf_complete, if_neg other]
    exact waiting j (by simp [mem])

theorem RequestEdits.endAttempt {s : State} {k : Fin 32} (h : Agrees (some k) s) (r : FrameResult) (a : Byte) (b : Bool) :
    RequestEdits s (endAttempt k r a b s) := by
  unfold Machine.endAttempt
  dsimp only
  have ends := RequestEdits.attemptEnd ((h.active k).mpr rfl) r (s.engine.arb == .won)
  split
  · refine ends.trans (RequestEdits.completeAll (flushList_nodup (h.attemptEnd r _).queues a) fun k mem => flushList_waiting mem)
  · exact ends

theorem RequestEdits.reportResult {s : State} (h : RequestsConsistent s) (r : FrameResult) :
    RequestEdits s (reportResult r s) := by
  obtain ⟨agrees, fits⟩ := (requestsConsistent_iff s).mp h
  have after (t : State) : RequestEdits t (engineAfter r t) := by
    obtain ⟨store, -, nodes, -⟩ := engineAfter_requests r t
    exact RequestEdits.of_requests store nodes
  cases held : s.engine.held with
  | none =>
    rw [reportResult_no_frame fun k f runs => by simp [Runs, held] at runs]
    exact after s
  | some k =>
    obtain ⟨f, runs⟩ := fits.runs held
    rw [reportResult_frame_run runs]
    refine (RequestEdits.resultTaken r k f s).trans ?_
    split
    · exact RequestEdits.of_requests rfl rfl
    · exact (RequestEdits.endAttempt ((held ▸ agrees).resultTaken r k f) r f.dest _).trans (after _)

theorem RequestEdits.engineStuck {s : State} (h : RequestsConsistent s) : RequestEdits s (engineStuck s) := by
  unfold Machine.engineStuck
  split
  · exact .reportResult h .busStuck
  · split
    · exact .refl
    · obtain ⟨store, -, nodes, -⟩ := engineToIdle_requests s
      exact RequestEdits.of_requests store nodes

/-! ### Every move -/

theorem RequestEdits.choose (s : State) : RequestEdits s (choose s) := by
  refine choose_induction (I := RequestEdits s) (fun _ => id) (fun t k h waiting => ?_) (fun t q k h _ waiting _ => ?_) .refl
  · exact h.tail (.complete k .localTarget false ((Slot.queued_iff _).mpr (.inl waiting)))
  · have active : RequestsKept t (Machine.setSlot k { slotOf t k with state := .active, framesDone := 0 } t) :=
      .relabel ((Slot.queued_iff _).mpr (.inl waiting)) rfl rfl rfl
    refine h.tail (.kept ⟨active.queued, active.live, active.tag, active.chain, rfl, fun _ => rfl⟩)

theorem RequestMove.requestEdits {s t : State} (m : RequestMove s t) (h : RequestsConsistent s) : RequestEdits s t := by
  cases m with
  | choice => exact .choose s
  | place q c k passed => exact .single (.place q c k passed)
  | completeWaiting k o waiting => exact .single (.complete k o false ((Slot.queued_iff _).mpr (.inl waiting)))
  | slot k x kept => exact (RequestsKept.slot kept).edits
  | pop r rest head =>
    have done : (slotOf s r.slot).state = .done := (h.2.1.2 r.slot).mp (by simp [head])
    have taken : RequestEdits s (s.setCompletions rest) := RequestEdits.of_requests rfl rfl
    exact taken.tail (.free (s := s.setCompletions rest) r.slot done)
  | entries v kept =>
    refine .single (.kept (.of_entries rfl fun i => ?_))
    have kept := kept i
    show (tget v i).map _ = _
    match tget s.nodes i, tget v i, kept with
    | none, none, _ => rfl
    | some n, some m, ⟨address, refs, _⟩ => simp [address, refs]
  | createEntry i n unused fresh _ refs => exact .single (.createEntry i n unused fresh refs)
  | removeEntry i n used refs => exact .single (.removeEntry i n used refs)
  | engine e => exact RequestEdits.of_requests rfl rfl

theorem SameRequests.requestEdits {s t : State} (same : SameRequests s t) : RequestEdits s t :=
  (RequestsKept.of_requests same.store same.nodes).edits

/-- Where slots, queues, records and engine agree, every move is a chain of edits of the requests. -/
theorem Move.requestEdits {s t : State} (m : Move s t) (h : RequestsConsistent s) : RequestEdits s t := by
  cases m with
  | same core => exact core.requests.requestEdits
  | request m => exact m.requestEdits h
  | engine m =>
    cases m with
    | report r => exact .reportResult h r
    | toIdle =>
      obtain ⟨store, -, nodes, -⟩ := engineToIdle_requests s
      exact RequestEdits.of_requests store nodes
  | remote m => exact m.requests.1.requestEdits
  | port m =>
    rcases m.requests with same | ⟨u, same, rfl⟩
    · exact same.requestEdits
    · exact same.requestEdits.trans (RequestEdits.engineStuck (same.consistent h))
  | softReset eq =>
    subst eq
    refine .single (.reset rfl fun i n used => ?_)
    rw [tget_softResetState_nodes, Option.map_eq_some_iff] at used
    obtain ⟨m, -, eq⟩ := used
    subst eq
    exact ⟨rfl, rfl⟩
  | hardReset a b c eq =>
    subst eq
    refine .single (.reset rfl fun i n used => ?_)
    simp at used

/-- What every edit of the requests keeps, every step keeps where slots, queues, records and engine agree. -/
theorem step_keeps_requests {I : State → Prop} (kept : ∀ {s t}, RequestEdit s t → I s → I t)
    (unread : ∀ s l, I s → I (State.setPending s l)) {s t : State} (consistent : RequestsConsistent s)
    (h : step s = .next t) (i : I s) : I t :=
  step_keeps_beside (J := RequestsConsistent) (I := I) Move.consistent (fun m j i => (m.requestEdits j).keep kept i)
    (fun s l both => ⟨both.1, unread s l both.2⟩) h consistent i

end Sys2Proof.Machine

/-! Reference counts (R72) and tags (R29), kept by every edit of the requests; the counts of the slots (R194). -/

namespace Sys2Proof.Machine

/-! ### The slots with a property -/

/-- The slots with a property, from 0 up. -/
def slotsWith (s : State) (p : Slot → Bool) : List (Fin 32) := (List.finRange 32).filter fun k => p (slotOf s k)

section
variable {s t : State} {p q : Slot → Bool} {k : Fin 32}

theorem mem_slotsWith : k ∈ slotsWith s p ↔ p (slotOf s k) = true := by simp [slotsWith]

theorem nodup_slotsWith : (slotsWith s p).Nodup := (List.nodup_finRange 32).filter _

theorem slotsWith_congr (same : ∀ j, p (slotOf t j) = q (slotOf s j)) : slotsWith t p = slotsWith s q :=
  List.filter_congr fun j _ => same j

/-- One slot lost its property, if it had it. -/
theorem slotsWith_erase (lost : ∀ j, p (slotOf t j) = (j != k && q (slotOf s j))) :
    slotsWith t p = (slotsWith s q).erase k := by
  rw [nodup_slotsWith.erase_eq_filter]
  unfold slotsWith
  rw [List.filter_filter]
  exact List.filter_congr fun j _ => lost j

end

theorem tcount_slots (p : Slot → Bool) (s : State) : tcount p s.store.slots = (slotsWith s p).length :=
  List.countP_eq_length_filter

/-- A list that holds every number below n once. -/
theorem length_of_all {n : Nat} {l : List (Fin n)} (once : l.Nodup) (all : ∀ k, k ∈ l) : l.length = n := by
  have atMost := once.length_le_of_subset (l₂ := List.finRange n) fun k _ => List.mem_finRange k
  have atLeast := (List.nodup_finRange n).length_le_of_subset (l₂ := l) fun k _ => all k
  rw [List.length_finRange] at atMost atLeast
  omega

/-! ### Refs (R72) -/

/-- The WAITING or ACTIVE slots that name a node. -/
abbrev naming (s : State) (a : Byte) : List (Fin 32) := slotsWith s fun x => x.queued && names x.chain a

theorem mem_naming {s : State} {a : Byte} {k : Fin 32} :
    k ∈ naming s a ↔ (slotOf s k).queued = true ∧ names (slotOf s k).chain a = true :=
  mem_slotsWith.trans (Bool.and_eq_true_iff)

/-- An entry is found exactly where some entry holds the address. -/
theorem nodeAt_isSome_iff {a : Byte} {s : State} :
    (nodeAt a s).isSome = true ↔ ∃ i n, tget s.nodes i = some n ∧ n.address = a := by
  constructor
  · intro found
    unfold nodeAt at found
    cases at_ : findNode a s with
    | none => simp [at_] at found
    | some i =>
      obtain ⟨n, used, address⟩ := findNode_some at_
      exact ⟨i, n, used, address⟩
  · rintro ⟨i, n, used, address⟩
    have found : (findNode a s).isSome = true :=
      tfind_isSome.mpr ⟨i, by rw [used]; simpa [entryHolds] using address⟩
    obtain ⟨j, at_⟩ := Option.isSome_iff_exists.mp found
    obtain ⟨m, usedM, -⟩ := findNode_some at_
    simp [nodeAt, at_, usedM]

/-- Every node named has an entry, and each entry's refs is the number of the slots that name it. -/
theorem refsExact_iff (s : State) : RefsExact s ↔
    (∀ k, (slotOf s k).queued = true → ∀ f ∈ (slotOf s k).chain, ∃ i n, tget s.nodes i = some n ∧ n.address = f.dest) ∧
      ∀ i n, tget s.nodes i = some n → n.refs = (naming s n.address).length := by
  unfold RefsExact
  simp only [nodeAt_isSome_iff, tcount_slots]

/-- An entry that takes other refs has the address of the entry before it. -/
theorem entry_of_map {v w : Vector (Option NodeEntry) 16} {f : NodeEntry → NodeEntry}
    (map : ∀ i, tget w i = (tget v i).map f) {i : Fin 16} {n : NodeEntry} (used : tget w i = some n) :
    ∃ m, tget v i = some m ∧ f m = n := by
  rw [map, Option.map_eq_some_iff] at used
  exact used

theorem RequestsKept.refs {s t : State} (h : RequestsKept s t) (exact_ : RefsExact s) : RefsExact t := by
  rw [refsExact_iff] at exact_ ⊢
  obtain ⟨known, counted⟩ := exact_
  have same (a : Byte) : naming t a = naming s a := slotsWith_congr fun k => by rw [h.queued, h.chain]
  have entry {i : Fin 16} {n : NodeEntry} {u v : State} (used : tget u.nodes i = some n)
      (kept : (tget v.nodes i).map (fun n => (n.address, n.refs)) = (tget u.nodes i).map fun n => (n.address, n.refs)) :
      ∃ m, tget v.nodes i = some m ∧ m.address = n.address ∧ m.refs = n.refs := by
    rw [used, Option.map_some, Option.map_eq_some_iff] at kept
    obtain ⟨m, at_, eq⟩ := kept
    exact ⟨m, at_, congrArg Prod.fst eq, congrArg Prod.snd eq⟩
  refine ⟨fun k queued f mem => ?_, fun i n used => ?_⟩
  · rw [h.queued] at queued
    rw [h.chain] at mem
    obtain ⟨i, n, used, address⟩ := known k queued f mem
    obtain ⟨m, at_, eq, -⟩ := entry (v := t) used (h.entries i)
    exact ⟨i, m, at_, eq.trans address⟩
  · obtain ⟨m, at_, address, refs⟩ := entry (v := s) used (h.entries i).symm
    rw [same, ← address, ← refs]
    exact counted i m at_

/-- A request that completes is named no more (R72, R111). -/
theorem naming_complete (k : Fin 32) (o : RequestOutcome) (b : Bool) (s : State) (a : Byte) :
    naming (complete k o b s) a = (naming s a).erase k := by
  refine slotsWith_erase fun j => ?_
  rw [slotOf_complete]
  by_cases mine : j = k
  · simp [mine, doneSlot, Slot.queued]
  · simp [mine]

theorem refsExact_complete {s : State} (h : RefsExact s) {k : Fin 32} (queued : (slotOf s k).queued = true)
    (o : RequestOutcome) (b : Bool) : RefsExact (complete k o b s) := by
  rw [refsExact_iff] at h ⊢
  obtain ⟨known, counted⟩ := h
  have entries := tget_complete_nodes k o b s
  refine ⟨fun j queued f mem => ?_, fun i n used => ?_⟩
  · rw [slotOf_complete] at queued mem
    split at queued
    · simp [doneSlot, Slot.queued] at queued
    · rename_i other
      rw [if_neg other] at mem
      obtain ⟨i, n, used, address⟩ := known j queued f mem
      refine ⟨i, _, by rw [entries, used, Option.map_some], ?_⟩
      split <;> exact address
  · obtain ⟨m, at_, eq⟩ := entry_of_map entries used
    have refs := counted i m at_
    rw [naming_complete, ← eq]
    by_cases named : names (slotOf s k).chain m.address = true
    · have mem : k ∈ naming s m.address := mem_naming.mpr ⟨queued, named⟩
      rw [if_pos named, List.length_erase_of_mem mem, ← refs]
    · have absent : k ∉ naming s m.address := fun mem => named (mem_naming.mp mem).2
      rw [if_neg named, List.erase_of_not_mem absent, ← refs]

theorem tget_placeRequest_nodes (k : Fin 32) (q : QueueName) (c : List Frame) (s : State) (i : Fin 16) :
    tget (placeRequest k q c s).nodes i =
      (tget s.nodes i).map fun n => if names c n.address then { n with refs := n.refs + 1 } else n :=
  tget_mapNodes _ _ _ i

/-- A request that is placed in a FREE slot is named at each node of its chain (R39, R72). -/
theorem naming_placeRequest {k : Fin 32} (q : QueueName) (c : List Frame) {s : State} (free : (slotOf s k).state = .free)
    (a : Byte) : naming s a = (naming (placeRequest k q c s) a).erase k := by
  refine slotsWith_erase fun j => ?_
  rw [slotOf_placeRequest]
  by_cases mine : j = k
  · simp [mine, Slot.queued, free]
  · simp [mine]

theorem mem_naming_placeRequest (k : Fin 32) (q : QueueName) (c : List Frame) (s : State) (a : Byte) :
    k ∈ naming (placeRequest k q c s) a ↔ names c a = true := by
  rw [mem_naming, slotOf_placeRequest, if_pos rfl]
  simp [allocatedSlot, Slot.queued]

theorem refsExact_place {s : State} (h : RefsExact s) {q : QueueName} {c : List Frame} {k : Fin 32}
    (passed : submitCheck s = .passed q c k) : RefsExact (placeRequest k q c s) := by
  obtain ⟨-, -, free, -⟩ := submitCheck_passed passed
  obtain ⟨-, chain⟩ := placed_chain passed
  rw [refsExact_iff] at h ⊢
  obtain ⟨known, counted⟩ := h
  have entries := tget_placeRequest_nodes k q c s
  have stays {a : Byte} (was : ∃ i n, tget s.nodes i = some n ∧ n.address = a) :
      ∃ i n, tget (placeRequest k q c s).nodes i = some n ∧ n.address = a := by
    obtain ⟨i, n, used, address⟩ := was
    refine ⟨i, _, by rw [entries, used, Option.map_some], ?_⟩
    split <;> exact address
  refine ⟨fun j queued f mem => stays ?_, fun i n used => ?_⟩
  · rw [slotOf_placeRequest] at queued mem
    split at queued
    · rename_i mine
      rw [if_pos mine] at mem
      have state := (chain f mem).1
      refine nodeAt_isSome_iff.mp (Option.isSome_iff_ne_none.mpr fun absent => state ?_)
      simp [nodeState, absent]
    · rename_i other
      rw [if_neg other] at mem
      exact known j queued f mem
  · obtain ⟨m, at_, eq⟩ := entry_of_map entries used
    have refs := counted i m at_
    have before := naming_placeRequest q c free m.address
    rw [← eq]
    by_cases named : names c m.address = true
    · have mem := (mem_naming_placeRequest k q c s m.address).mpr named
      have some_ := List.length_pos_of_mem mem
      have oneMore : m.refs + 1 = (naming (placeRequest k q c s) m.address).length := by
        rw [refs, before, List.length_erase_of_mem mem]
        omega
      rw [if_pos named]
      exact oneMore
    · have absent := fun mem => named ((mem_naming_placeRequest k q c s m.address).mp mem)
      rw [if_neg named, refs, before, List.erase_of_not_mem absent]

/-- With no slot in use nothing is named. -/
theorem naming_reset {s : State} (store : s.store = Store.reset) (k : Fin 32) : slotOf s k = Slot.free := by
  unfold slotOf
  rw [store]
  exact tget_replicate _ _

theorem RequestEdit.refs {s t : State} (e : RequestEdit s t) (h : RefsExact s) : RefsExact t := by
  cases e with
  | kept kept => exact kept.refs h
  | complete k o b queued => exact refsExact_complete h queued o b
  | place q c k passed => exact refsExact_place h passed
  | free k done =>
    have notQueued : (slotOf s k).queued = false := by simp [Slot.queued, done]
    rw [refsExact_iff] at h ⊢
    obtain ⟨known, counted⟩ := h
    have same (j : Fin 32) (queued : (slotOf (setSlot k Slot.free s) j).queued = true) :
        slotOf (setSlot k Slot.free s) j = slotOf s j := by
      rw [slotOf_setSlot] at queued ⊢
      split at queued
      · simp [Slot.free, Slot.queued] at queued
      · rename_i other
        rw [if_neg other]
    have named (a : Byte) : naming (setSlot k Slot.free s) a = naming s a := by
      refine slotsWith_congr fun j => ?_
      rw [slotOf_setSlot]
      by_cases mine : j = k
      · simp only [mine, notQueued, if_true]
        simp [Slot.free, Slot.queued]
      · simp [mine]
    refine ⟨fun j queued f mem => ?_, fun i n used => (counted i n used).trans (by rw [named])⟩
    have eq := same j queued
    exact known j (eq ▸ queued) f (eq ▸ mem)
  | createEntry i n unused fresh refs =>
    rw [refsExact_iff] at h ⊢
    obtain ⟨known, counted⟩ := h
    have stays {j : Fin 16} {m : NodeEntry} (used : tget s.nodes j = some m) :
        tget (tset s.nodes i (some n)) j = some m := by
      rw [tget_tset, if_neg]
      · exact used
      · rintro rfl
        simp [unused] at used
    refine ⟨fun k queued f mem => ?_, fun j m used => ?_⟩
    · obtain ⟨j, m, used, address⟩ := known k queued f mem
      exact ⟨j, m, stays used, address⟩
    · have read : tget (s.setNodes (tset s.nodes i (some n))).nodes j = if j = i then some n else tget s.nodes j :=
        tget_tset s.nodes i j _
      rw [read] at used
      split at used
      · cases used
        have nobody : naming s n.address = [] := by
          refine List.eq_nil_iff_forall_not_mem.mpr fun k mem => ?_
          obtain ⟨queued, named⟩ := mem_naming.mp mem
          obtain ⟨f, inChain, dest⟩ := names_iff.mp named
          obtain ⟨l, m, used, address⟩ := known k queued f inChain
          exact findNode_none fresh used (address.trans dest)
        rw [refs]
        exact (congrArg List.length nobody).symm
      · exact counted j m used
  | removeEntry i n used refs =>
    rw [refsExact_iff] at h ⊢
    obtain ⟨known, counted⟩ := h
    have nobody : naming s n.address = [] := List.eq_nil_of_length_eq_zero ((counted i n used).symm.trans refs)
    have read (j : Fin 16) : tget (s.setNodes (tset s.nodes i none)).nodes j = if j = i then none else tget s.nodes j :=
      tget_tset s.nodes i j _
    refine ⟨fun k queued f mem => ?_, fun j m usedM => ?_⟩
    · obtain ⟨j, m, usedM, address⟩ := known k queued f mem
      refine ⟨j, m, ?_, address⟩
      rw [read, if_neg]
      · exact usedM
      · rintro rfl
        rw [used, Option.some.injEq] at usedM
        subst usedM
        have mem : k ∈ naming s n.address := mem_naming.mpr ⟨queued, names_iff.mpr ⟨f, mem, address.symm⟩⟩
        simp [nobody] at mem
    · rw [read] at usedM
      split at usedM
      · cases usedM
      · exact counted j m usedM
  | reset store entries =>
    have free := naming_reset store
    have nobody (a : Byte) : naming t a = [] := by
      refine List.eq_nil_iff_forall_not_mem.mpr fun k mem => ?_
      simp [mem_naming, free, Slot.free, Slot.queued] at mem
    rw [refsExact_iff]
    refine ⟨fun k queued => ?_, fun i n used => ?_⟩
    · simp [free, Slot.free, Slot.queued] at queued
    · rw [(entries i n used).1, nobody]
      rfl

/-- Settles O51: by the edits of the requests. -/
theorem refsStayExact : Obligations.RefsStayExact :=
  fun _ _ consistent _ refs next => step_keeps_requests RequestEdit.refs (fun _ _ h => h) consistent next refs

/-! ### Tags (R29) -/

theorem nextTag_toNat {t : Byte} (h : t ≠ 0) : (nextTag t).toNat = t.toNat % 255 + 1 := by
  have positive : t.toNat ≠ 0 := fun zero => h (BitVec.eq_of_toNat_eq zero)
  have small := t.isLt
  unfold nextTag
  split
  · rename_i last
    rw [last]
    rfl
  · rename_i other
    have notLast : t.toNat ≠ 255 := fun last => other (BitVec.eq_of_toNat_eq last)
    rw [BitVec.toNat_add]
    have one : (1 : Byte).toNat = 1 := rfl
    omega

theorem nextTag_ne_zero {t : Byte} (h : t ≠ 0) : nextTag t ≠ 0 := by
  intro zero
  have value := nextTag_toNat h
  rw [zero] at value
  have none : (0 : Byte).toNat = 0 := rfl
  omega

/-- From a tag that is not 0 the n-th further one (R29). -/
theorem repeat_nextTag {t : Byte} (h : t ≠ 0) (n : Nat) :
    Nat.repeat nextTag n t ≠ 0 ∧ (Nat.repeat nextTag n t).toNat = (t.toNat - 1 + n) % 255 + 1 := by
  have positive : t.toNat ≠ 0 := fun zero => h (BitVec.eq_of_toNat_eq zero)
  have small := t.isLt
  induction n with
  | zero => exact ⟨h, by show t.toNat = _; omega⟩
  | succ n ih =>
    obtain ⟨nonzero, value⟩ := ih
    refine ⟨nextTag_ne_zero nonzero, ?_⟩
    show (nextTag (Nat.repeat nextTag n t)).toNat = _
    rw [nextTag_toNat nonzero, value]
    omega

theorem repeat_succ_first {α : Type} (f : α → α) (n : Nat) (a : α) : Nat.repeat f (n + 1) a = Nat.repeat f n (f a) := by
  induction n with
  | zero => rfl
  | succ n ih => exact congrArg f ih

/-- The search stops at the first value that no live slot holds, or after its last try. -/
theorem searchTag_stops (s : State) (n : Nat) : ∀ t, ∃ m, m ≤ n ∧ searchTag s n t = Nat.repeat nextTag m t ∧
    (∀ i, i < m → (findTag (Nat.repeat nextTag i t) s).isSome = true) ∧
    (m < n → findTag (Nat.repeat nextTag m t) s = none) := by
  induction n with
  | zero => exact fun t => ⟨0, Nat.le_refl 0, rfl, fun i h => by omega, fun h => by omega⟩
  | succ n ih =>
    intro t
    unfold searchTag
    split
    · rename_i held
      obtain ⟨m, le, found, before, at_⟩ := ih (nextTag t)
      refine ⟨m + 1, by omega, by rw [found, repeat_succ_first], fun i below => ?_, fun below => ?_⟩
      · cases i with
        | zero => exact held
        | succ i =>
          rw [repeat_succ_first]
          exact before i (by omega)
      · rw [repeat_succ_first]
        exact at_ (by omega)
    · rename_i free
      exact ⟨0, by omega, rfl, fun i h => by omega, fun _ => Option.not_isSome_iff_eq_none.mp free⟩

theorem findTag_some {tag : Byte} {s : State} {k : Fin 32} (h : findTag tag s = some k) :
    (slotOf s k).live = true ∧ (slotOf s k).tag = some tag := by
  simpa [findTag, slotOf] using tfind_some h

theorem findTag_none {tag : Byte} {s : State} (h : findTag tag s = none) {k : Fin 32} (live : (slotOf s k).live = true) :
    (slotOf s k).tag ≠ some tag := by
  have other := tfind_eq_none.mp h k
  simp only [Bool.and_eq_false_iff, beq_eq_false_iff_ne] at other
  exact other.resolve_left fun dead => by simp [show (tget s.store.slots k).live = true from live] at dead

/-- What a search finds for each of 32 tags in a row. -/
def holders (s : State) (t : Byte) : List (Option (Fin 32)) :=
  (List.finRange 32).map fun i => findTag (Nat.repeat nextTag i.val t) s

/-- With a FREE slot not all of 32 tags in a row are held: each is held by a slot of its own. -/
theorem some_tag_free {s : State} {t : Byte} (nonzero : t ≠ 0) {k : Fin 32} (free : (slotOf s k).state = .free) :
    ∃ i, i < 32 ∧ findTag (Nat.repeat nextTag i t) s = none := by
  refine Classical.byContradiction fun all => ?_
  have held (i : Fin 32) : ∃ j, findTag (Nat.repeat nextTag i.val t) s = some j :=
    Option.ne_none_iff_exists'.mp fun none => all ⟨i, i.isLt, none⟩
  have once : (holders s t).Nodup := by
    refine List.pairwise_map.mpr ((List.nodup_finRange 32).imp fun {i j} other same => other ?_)
    obtain ⟨k, found⟩ := held i
    have tagI := (findTag_some found).2
    rw [(findTag_some (same.symm.trans found)).2, Option.some.injEq] at tagI
    have value := congrArg BitVec.toNat tagI
    rw [(repeat_nextTag nonzero j.val).2, (repeat_nextTag nonzero i.val).2] at value
    have small := t.isLt
    have boundI := i.isLt
    have boundJ := j.isLt
    exact Fin.ext (by omega)
  have absent : some k ∉ holders s t := by
    intro mem
    obtain ⟨i, -, found⟩ := List.mem_map.mp mem
    have live := (findTag_some found).1
    simp [Slot.live, free] at live
  have known : some k :: holders s t ⊆ (List.finRange 32).map some := by
    intro o mem
    rcases List.mem_cons.mp mem with rfl | mem
    · exact List.mem_map_of_mem (List.mem_finRange k)
    · obtain ⟨i, -, rfl⟩ := List.mem_map.mp mem
      obtain ⟨j, found⟩ := held i
      rw [found]
      exact List.mem_map_of_mem (List.mem_finRange j)
  have few := (List.nodup_cons.mpr ⟨absent, once⟩).length_le_of_subset known
  simp [holders] at few

/-- The tag of a SUBMIT: the first from the counter on that no live slot holds (R29). -/
theorem assignTag_first {s : State} (counter : s.store.tagCounter ≠ 0) {k : Fin 32} (free : (slotOf s k).state = .free) :
    ∃ n, n < 32 ∧ assignTag s = Nat.repeat nextTag n s.store.tagCounter ∧ findTag (assignTag s) s = none ∧
      ∀ i, i < n → (findTag (Nat.repeat nextTag i s.store.tagCounter) s).isSome = true := by
  obtain ⟨n, le, found, before, at_⟩ := searchTag_stops s 32 s.store.tagCounter
  obtain ⟨i, below, none⟩ := some_tag_free counter free
  have inside : n < 32 := by
    refine Classical.byContradiction fun beyond => ?_
    have held := before i (by omega)
    simp [none] at held
  refine ⟨n, inside, found, ?_, before⟩
  unfold assignTag
  rw [found]
  exact at_ inside

/-- The invariant of the tags is kept where each live slot was live with the same tag. -/
theorem TagsDistinct.of_slots {s t : State} (h : TagsDistinct s) (counter : t.store.tagCounter = s.store.tagCounter)
    (slots : ∀ k, (slotOf t k).live = true → (slotOf s k).live = true ∧ (slotOf s k).tag = (slotOf t k).tag) :
    TagsDistinct t := by
  refine ⟨counter ▸ h.1, fun k live => ?_⟩
  obtain ⟨was, same⟩ := slots k live
  obtain ⟨tag, eq, nonzero, only⟩ := h.2 k was
  refine ⟨tag, same ▸ eq, nonzero, fun j liveJ tagJ => ?_⟩
  obtain ⟨wasJ, sameJ⟩ := slots j liveJ
  exact only j wasJ (sameJ.trans tagJ)

theorem tagsDistinct_place {s : State} (h : TagsDistinct s) {q : QueueName} {c : List Frame} {k : Fin 32}
    (passed : submitCheck s = .passed q c k) : TagsDistinct (placeRequest k q c s) := by
  obtain ⟨-, -, free, -⟩ := submitCheck_passed passed
  obtain ⟨counter, tags⟩ := h
  obtain ⟨n, -, eq, unheld, -⟩ := assignTag_first counter free
  have nonzero : assignTag s ≠ 0 := eq ▸ (repeat_nextTag counter n).1
  have counts : (placeRequest k q c s).store.tagCounter = nextTag (assignTag s) := rfl
  refine ⟨counts ▸ nextTag_ne_zero nonzero, fun j live => ?_⟩
  simp only [slotOf_placeRequest] at live ⊢
  by_cases mine : j = k
  · refine ⟨assignTag s, by simp [mine, allocatedSlot], nonzero, fun i liveI tagI => ?_⟩
    refine Classical.byContradiction fun other => ?_
    rw [mine] at other
    rw [if_neg other] at liveI tagI
    exact findTag_none unheld liveI tagI
  · rw [if_neg mine] at live ⊢
    obtain ⟨tag, eq, nonzero, only⟩ := tags j live
    refine ⟨tag, eq, nonzero, fun i liveI tagI => ?_⟩
    by_cases placed : i = k
    · have same : assignTag s = tag := by simpa [placed, allocatedSlot] using tagI
      exact absurd (same ▸ eq) (findTag_none unheld live)
    · rw [if_neg placed] at liveI tagI
      exact only i liveI tagI

theorem RequestEdit.tags {s t : State} (e : RequestEdit s t) (h : TagsDistinct s) : TagsDistinct t := by
  cases e with
  | kept kept => exact h.of_slots kept.counter fun k live => ⟨(kept.live k).symm.trans live, (kept.tag k).symm⟩
  | complete k o b queued =>
    refine h.of_slots rfl fun j live => ?_
    rw [slotOf_complete] at live ⊢
    split
    · rename_i mine
      refine ⟨?_, by rw [mine]; rfl⟩
      rw [mine]
      rcases (Slot.queued_iff _).mp queued with state | state <;> simp [Slot.live, state]
    · rename_i other
      rw [if_neg other] at live
      exact ⟨live, rfl⟩
  | place q c k passed => exact tagsDistinct_place h passed
  | free k done =>
    refine h.of_slots rfl fun j live => ?_
    rw [slotOf_setSlot] at live ⊢
    split at live
    · simp [Slot.live, Slot.free] at live
    · rename_i other
      rw [if_neg other]
      exact ⟨live, rfl⟩
  | createEntry | removeEntry => exact h.of_slots rfl fun k live => ⟨live, rfl⟩
  | reset store =>
    refine ⟨by rw [store]; decide, fun k live => ?_⟩
    simp [naming_reset store, Slot.free, Slot.live] at live

/-- Settles O52: a SUBMIT takes a tag that no live slot holds, and nothing else gives a slot a tag. -/
theorem tagsStayDistinct : Obligations.TagsStayDistinct :=
  fun _ _ consistent tags next => step_keeps_requests RequestEdit.tags (fun _ _ h => h) consistent next tags

end Sys2Proof.Machine

/-! No request in a queue names a SUSPENDED node (R70); the slots by their use (R47, R194). -/

namespace Sys2Proof.Machine

/-! ### SUSPENDED nodes -/

/-- Some entry of this address is SUSPENDED. -/
def SuspendedAt (s : State) (a : Byte) : Prop :=
  ∃ i n, tget s.nodes i = some n ∧ n.address = a ∧ n.state = .suspended

theorem nodeAt_some {a : Byte} {s : State} {n : NodeEntry} (h : nodeAt a s = some n) :
    ∃ i, tget s.nodes i = some n ∧ n.address = a := by
  unfold nodeAt at h
  cases found : findNode a s with
  | none => simp [found] at h
  | some i =>
    obtain ⟨m, used, address⟩ := findNode_some found
    have same : m = n := by simpa [found, used] using h
    exact ⟨i, same ▸ used, same ▸ address⟩

/-- With no two entries of one address, an entry is the one that is found by its address. -/
theorem nodeAt_of_entry {s : State} (distinct : NodesDistinct s) {i : Fin 16} {n : NodeEntry}
    (used : tget s.nodes i = some n) : nodeAt n.address s = some n := by
  obtain ⟨m, found⟩ := Option.isSome_iff_exists.mp (nodeAt_isSome_iff.mpr ⟨i, n, used, rfl⟩)
  obtain ⟨j, usedM, address⟩ := nodeAt_some found
  have same : j = i := distinct.2 j i m n usedM used address
  rw [same, used, Option.some.injEq] at usedM
  rw [found, usedM]

theorem nodeState_suspended_iff {s : State} (distinct : NodesDistinct s) (a : Byte) :
    nodeState a s = some .suspended ↔ SuspendedAt s a := by
  unfold nodeState
  constructor
  · intro h
    obtain ⟨n, found, state⟩ := Option.map_eq_some_iff.mp h
    obtain ⟨i, used, address⟩ := nodeAt_some found
    exact ⟨i, n, used, address, state⟩
  · rintro ⟨i, n, used, rfl, state⟩
    rw [nodeAt_of_entry distinct used, Option.map_some, state]

/-- No WAITING or ACTIVE request names a node with a SUSPENDED entry. -/
def Unnamed (s : State) : Prop :=
  ∀ k, (slotOf s k).queued = true → ∀ f ∈ (slotOf s k).chain, ¬ SuspendedAt s f.dest

theorem suspendedUnnamed_iff {s : State} (distinct : NodesDistinct s) : SuspendedUnnamed s ↔ Unnamed s := by
  unfold SuspendedUnnamed Unnamed
  simp only [ne_eq, nodeState_suspended_iff distinct]

/-! ### Fewer requests, fewer SUSPENDED nodes -/

/-- No request joins a queue, and no node becomes SUSPENDED. -/
structure Shrinks (s t : State) : Prop where
  named : ∀ k, (slotOf t k).queued = true → (slotOf s k).queued = true ∧ (slotOf t k).chain = (slotOf s k).chain
  suspended : ∀ a, SuspendedAt t a → SuspendedAt s a

theorem Shrinks.unnamed {s t : State} (h : Shrinks s t) (unnamed : Unnamed s) : Unnamed t := by
  intro k queued f mem suspends
  obtain ⟨was, chain⟩ := h.named k queued
  exact unnamed k was f (chain ▸ mem) (h.suspended f.dest suspends)

theorem Shrinks.trans {s t u : State} (a : Shrinks s t) (b : Shrinks t u) : Shrinks s u where
  named k queued := by
    obtain ⟨mid, eq⟩ := b.named k queued
    obtain ⟨was, eq'⟩ := a.named k mid
    exact ⟨was, eq.trans eq'⟩
  suspended x h := a.suspended x (b.suspended x h)

theorem SuspendedAt.of_nodes {s t : State} (nodes : t.nodes = s.nodes) {a : Byte} (h : SuspendedAt t a) :
    SuspendedAt s a := by
  unfold SuspendedAt at h ⊢
  rwa [nodes] at h

theorem Shrinks.of_requests {s t : State} (store : t.store = s.store) (nodes : t.nodes = s.nodes) : Shrinks s t where
  named k queued := by
    rw [slotOf_of_store store] at queued ⊢
    exact ⟨queued, rfl⟩
  suspended _ := .of_nodes nodes

/-- Entries that change, but neither in their address nor into SUSPENDED. -/
theorem SuspendedAt.of_map {s t : State} {f : NodeEntry → NodeEntry} (map : ∀ i, tget t.nodes i = (tget s.nodes i).map f)
    (kept : ∀ n, (f n).address = n.address ∧ ((f n).state = .suspended → n.state = .suspended)) {a : Byte}
    (h : SuspendedAt t a) : SuspendedAt s a := by
  obtain ⟨i, n, used, address, state⟩ := h
  obtain ⟨m, at_, eq⟩ := entry_of_map map used
  subst eq
  exact ⟨i, m, at_, (kept m).1.symm.trans address, (kept m).2 state⟩

theorem Shrinks.complete (k : Fin 32) (o : RequestOutcome) (b : Bool) (s : State) : Shrinks s (complete k o b s) where
  named j queued := by
    rw [slotOf_complete] at queued ⊢
    split at queued
    · simp [doneSlot, Slot.queued] at queued
    · rename_i other
      rw [if_neg other]
      exact ⟨queued, rfl⟩
  suspended a := SuspendedAt.of_map (tget_complete_nodes k o b s) fun n => by
    split <;> exact ⟨rfl, id⟩

theorem Shrinks.setSlot {s : State} {k : Fin 32} {x : Slot} (queued : x.queued = true → (slotOf s k).queued = true)
    (chain : x.chain = (slotOf s k).chain) : Shrinks s (setSlot k x s) where
  named j := by
    rw [slotOf_setSlot]
    split
    · rename_i mine
      rw [mine]
      exact fun h => ⟨queued h, chain⟩
    · exact fun h => ⟨h, rfl⟩
  suspended _ := id

theorem Shrinks.attemptEnd {s : State} {k : Fin 32} (active : (slotOf s k).state = .active) (r : FrameResult)
    (won : Bool) : Shrinks s (attemptEnd k r won s) := by
  obtain ⟨x, kept, eq⟩ := attemptEnd_cases k r won s
  have queued : (slotOf s k).queued = true := (Slot.queued_iff _).mpr (.inr active)
  have slot : Shrinks s (Machine.setSlot k x s) := .setSlot (fun _ => queued) kept.chain
  refine slot.trans ?_
  rcases eq with ⟨o, b, eq⟩ | eq
  · rw [eq]
    exact .complete k o b _
  · rw [eq]
    refine .setSlot (x := { slotOf (Machine.setSlot k x s) k with state := .waiting }) (fun _ => ?_) rfl
    rw [slotOf_setSlot_same]
    exact (Slot.queued_iff x).mpr (.inr (kept.state.trans active))

theorem Shrinks.completeAll (l : List (Fin 32)) : ∀ s, Shrinks s (completeAll l s) := by
  induction l with
  | nil => exact fun s => .of_requests rfl rfl
  | cons k rest ih => exact fun s => (Shrinks.complete k .nodeSuspended false s).trans (ih _)

theorem Shrinks.engineAfter (r : FrameResult) (s : State) : Shrinks s (engineAfter r s) := by
  obtain ⟨store, -, nodes, -⟩ := engineAfter_requests r s
  exact .of_requests store nodes

theorem Shrinks.choose (s : State) : Shrinks s (choose s) := by
  refine choose_induction (I := Shrinks s) (fun _ => id) (fun t k h _ => h.trans (.complete k _ _ t))
    (fun t q k h _ waiting _ => ?_) (.of_requests rfl rfl)
  have active : Shrinks t (Machine.setSlot k { slotOf t k with state := .active, framesDone := 0 } t) :=
    .setSlot (fun _ => (Slot.queued_iff _).mpr (.inl waiting)) rfl
  exact h.trans ⟨active.named, active.suspended⟩

/-! ### A frame result (R69, R70) -/

/-- A result that does not suspend leaves a node in its state or makes it another than SUSPENDED. -/
theorem NodeEntry.takeResult_suspended {r : FrameResult} {n : NodeEntry} (h : (n.takeResult r).state = .suspended) :
    n.state = .suspended ∨ suspendsNode r n = true := by
  by_cases suspends : suspendsNode r n = true
  · exact .inr suspends
  · refine .inl ?_
    cases r <;> simp_all [NodeEntry.takeResult]

/-- After the result only the frame's node can be newly SUSPENDED, and only by a result that suspends it. -/
theorem suspendedAt_resultTaken {s : State} (distinct : NodesDistinct s) {r : FrameResult} {k : Fin 32} {f : Frame}
    {a : Byte} (h : SuspendedAt (resultTaken r k f s) a) :
    SuspendedAt s a ∨ (a = f.dest ∧ resultSuspends r f.dest s = true) := by
  obtain ⟨x, -, eq⟩ := resultTaken_slot r k f s
  rw [eq] at h
  obtain ⟨i, n, used, address, state⟩ := h
  rw [nodeResult_nodes, tget_mapNodes, Option.map_eq_some_iff] at used
  obtain ⟨m, at_, eqN⟩ := used
  split at eqN
  · rename_i mine
    have dest : m.address = f.dest := by simpa using mine
    subst eqN
    rcases NodeEntry.takeResult_suspended state with was | suspends
    · exact .inl ⟨i, m, at_, (m.takeResult_kept r).1.symm.trans address, was⟩
    · refine .inr ⟨by rw [← address, (m.takeResult_kept r).1, dest], ?_⟩
      have found : nodeAt f.dest s = some m := dest ▸ nodeAt_of_entry distinct at_
      simpa [resultSuspends, found] using suspends
  · exact .inl ⟨i, m, at_, eqN ▸ address, eqN ▸ state⟩

theorem resultTaken_slots (r : FrameResult) (k : Fin 32) (f : Frame) (s : State) (j : Fin 32) :
    (slotOf (resultTaken r k f s) j).queued = (slotOf s j).queued ∧
      (slotOf (resultTaken r k f s) j).chain = (slotOf s j).chain := by
  obtain ⟨x, kept, eq⟩ := resultTaken_slot r k f s
  rw [eq, slotOf_of_store (nodeResult_store r f.dest _)]
  have same := RequestsKept.slot (s := s) kept
  exact ⟨same.queued j, same.chain j⟩

/-- Every SUSPENDED node that a WAITING or ACTIVE request names is this one. -/
def OnlyNamed (s : State) (a : Byte) : Prop :=
  ∀ k, (slotOf s k).queued = true → ∀ f ∈ (slotOf s k).chain, SuspendedAt s f.dest → f.dest = a

theorem Shrinks.onlyNamed {s t : State} (h : Shrinks s t) {a : Byte} (only : OnlyNamed s a) : OnlyNamed t a := by
  intro k queued f mem at_
  obtain ⟨was, chain⟩ := h.named k queued
  exact only k was f (chain ▸ mem) (h.suspended f.dest at_)

/-- With no request ACTIVE the flush leaves none that names the node (R70). -/
theorem unnamed_flush {s : State} (agrees : Agrees none s) {a : Byte} (only : OnlyNamed s a) : Unnamed (flush a s) := by
  have shrinks : Shrinks s (flush a s) := .completeAll (flushList a s) s
  intro k queued f mem at_
  have dest : f.dest = a := shrinks.onlyNamed only k queued f mem at_
  have notActive : (slotOf (flush a s) k).state ≠ .active := fun active => by
    have held := ((agrees.flush a).active k).mp active
    cases held
  obtain ⟨kept, notNamed⟩ := flush_unnamed agrees.queues (((Slot.queued_iff _).mp queued).resolve_right notActive)
  have named : names (slotOf s k).chain a = true := names_iff.mpr ⟨f, kept ▸ mem, dest⟩
  rw [named] at notNamed
  cases notNamed

/-- A suspension ends with its flush: no request names the node any more, and the one that was ACTIVE is not (R70). -/
theorem unnamed_endAttempt {s : State} (distinct : NodesDistinct s) (unnamed : Unnamed s) {r : FrameResult} {k : Fin 32}
    {f : Frame} (agrees : Agrees (some k) (resultTaken r k f s)) :
    Unnamed (endAttempt k r f.dest (resultSuspends r f.dest s) (resultTaken r k f s)) := by
  have before (j : Fin 32) (queued : (slotOf (resultTaken r k f s) j).queued = true) (g : Frame)
      (mem : g ∈ (slotOf (resultTaken r k f s) j).chain) (at_ : SuspendedAt (resultTaken r k f s) g.dest) :
      g.dest = f.dest ∧ resultSuspends r f.dest s = true := by
    obtain ⟨sameQueued, sameChain⟩ := resultTaken_slots r k f s j
    exact (suspendedAt_resultTaken distinct at_).resolve_left (unnamed j (sameQueued ▸ queued) g (sameChain ▸ mem))
  have ends := Shrinks.attemptEnd ((agrees.active k).mpr rfl) r ((resultTaken r k f s).engine.arb == .won)
  unfold endAttempt
  dsimp only
  split
  · exact unnamed_flush (agrees.attemptEnd r _) (ends.onlyNamed fun j queued g mem at_ => (before j queued g mem at_).1)
  · rename_i keeps
    exact ends.unnamed fun j queued g mem at_ => keeps (before j queued g mem at_).2

theorem unnamed_reportResult {s : State} (h : RequestsConsistent s) (distinct : NodesDistinct s) (unnamed : Unnamed s)
    (r : FrameResult) : Unnamed (reportResult r s) := by
  obtain ⟨agrees, fits⟩ := (requestsConsistent_iff s).mp h
  cases held : s.engine.held with
  | none =>
    rw [reportResult_no_frame fun k f runs => by simp [Runs, held] at runs]
    exact (Shrinks.engineAfter r s).unnamed unnamed
  | some k =>
    obtain ⟨f, runs⟩ := fits.runs held
    rw [reportResult_frame_run runs]
    split
    · rename_i links
      have kept : Shrinks s (linkNext k (resultTaken r k f s)) := by
        refine ⟨fun j queued => ?_, fun a at_ => ?_⟩
        · obtain ⟨sameQueued, sameChain⟩ := resultTaken_slots r k f s j
          exact ⟨sameQueued ▸ queued, sameChain⟩
        · refine (suspendedAt_resultTaken distinct at_).resolve_right fun suspends => ?_
          have never : resultSuspends .accepted f.dest s = true := links.1 ▸ suspends.2
          unfold resultSuspends at never
          split at never <;> simp [suspendsNode, countedResult] at never
      exact kept.unnamed unnamed
    · exact (Shrinks.engineAfter r _).unnamed (unnamed_endAttempt distinct unnamed ((held ▸ agrees).resultTaken r k f))

theorem unnamed_engineStuck {s : State} (h : RequestsConsistent s) (distinct : NodesDistinct s) (unnamed : Unnamed s) :
    Unnamed (engineStuck s) := by
  unfold engineStuck
  split
  · exact unnamed_reportResult h distinct unnamed .busStuck
  · split
    · exact unnamed
    · obtain ⟨store, -, nodes, -⟩ := engineToIdle_requests s
      exact (Shrinks.of_requests store nodes).unnamed unnamed

/-! ### Every move -/

theorem unnamed_place {s : State} (distinct : NodesDistinct s) (unnamed : Unnamed s) {q : QueueName} {c : List Frame}
    {k : Fin 32} (passed : submitCheck s = .passed q c k) : Unnamed (placeRequest k q c s) := by
  have suspended {a : Byte} (h : SuspendedAt (placeRequest k q c s) a) : SuspendedAt s a :=
    h.of_map (tget_placeRequest_nodes k q c s) fun n => by split <;> exact ⟨rfl, id⟩
  intro j queued f mem at_
  rw [slotOf_placeRequest] at queued mem
  split at queued
  · rename_i mine
    rw [if_pos mine] at mem
    exact ((placed_chain passed).2 f mem).2 ((nodeState_suspended_iff distinct _).mpr (suspended at_))
  · rename_i other
    rw [if_neg other] at mem
    exact unnamed j queued f mem (suspended at_)

theorem RequestMove.unnamed {s t : State} (m : RequestMove s t) (distinct : NodesDistinct s) (unnamed : Unnamed s) :
    Unnamed t := by
  cases m with
  | choice => exact (Shrinks.choose s).unnamed unnamed
  | place q c k passed => exact unnamed_place distinct unnamed passed
  | completeWaiting k o => exact (Shrinks.complete k o false s).unnamed unnamed
  | slot k x kept =>
    refine (Shrinks.setSlot (fun queued => ?_) kept.chain).unnamed unnamed
    simpa [Slot.queued, kept.state] using queued
  | pop r rest head =>
    have pops : Shrinks s (setSlot r.slot Slot.free (s.setCompletions rest)) := by
      refine ⟨fun j queued => ?_, fun _ => id⟩
      rw [slotOf_setSlot] at queued ⊢
      split at queued
      · simp [Slot.free, Slot.queued] at queued
      · rename_i other
        rw [if_neg other]
        exact ⟨queued, rfl⟩
    exact pops.unnamed unnamed
  | entries v kept =>
    refine Shrinks.unnamed (s := s) ⟨fun k queued => ⟨queued, rfl⟩, fun a at_ => ?_⟩ unnamed
    obtain ⟨i, n, used, address, state⟩ := at_
    have used : tget v i = some n := used
    have kept := kept i
    rw [used] at kept
    cases was : tget s.nodes i with
    | none => rw [was] at kept; exact kept.elim
    | some m =>
      rw [was] at kept
      obtain ⟨sameAddress, -, states⟩ := kept
      refine ⟨i, m, was, sameAddress.symm.trans address, ?_⟩
      rcases states with same | available
      · exact same.symm.trans state
      · simp [available] at state
  | createEntry i n unused fresh valid refs available =>
    refine Shrinks.unnamed (s := s) ⟨fun k queued => ⟨queued, rfl⟩, fun a at_ => ?_⟩ unnamed
    obtain ⟨j, m, used, address, state⟩ := at_
    have used : tget (tset s.nodes i (some n)) j = some m := used
    rw [tget_tset] at used
    split at used
    · cases used
      simp [available] at state
    · exact ⟨j, m, used, address, state⟩
  | removeEntry i n =>
    refine Shrinks.unnamed (s := s) ⟨fun k queued => ⟨queued, rfl⟩, fun a at_ => ?_⟩ unnamed
    obtain ⟨j, m, used, address, state⟩ := at_
    have used : tget (tset s.nodes i none) j = some m := used
    rw [tget_tset] at used
    split at used
    · cases used
    · exact ⟨j, m, used, address, state⟩
  | engine e => exact unnamed

theorem Move.unnamed {s t : State} (m : Move s t) (h : RequestsConsistent s) (distinct : NodesDistinct s)
    (unnamed : Unnamed s) : Unnamed t := by
  have same {t : State} (same : SameRequests s t) : Unnamed t := (Shrinks.of_requests same.store same.nodes).unnamed unnamed
  have reset {t : State} (store : t.store = Store.reset) : Unnamed t := by
    intro k queued
    simp [naming_reset store, Slot.free, Slot.queued] at queued
  cases m with
  | same core => exact same core.requests
  | request m => exact m.unnamed distinct unnamed
  | engine m =>
    cases m with
    | report r => exact unnamed_reportResult h distinct unnamed r
    | toIdle =>
      obtain ⟨store, -, nodes, -⟩ := engineToIdle_requests s
      exact (Shrinks.of_requests store nodes).unnamed unnamed
  | remote m => exact same m.requests.1
  | port m =>
    rcases m.requests with kept | ⟨u, kept, rfl⟩
    · exact same kept
    · exact unnamed_engineStuck (kept.consistent h) ((AddressesKept.of_nodes kept.nodes).distinct distinct) (same kept)
  | softReset eq => exact reset (by rw [eq]; rfl)
  | hardReset a b c eq => exact reset (by rw [eq]; rfl)

/-- Settles O53: a result suspends only its own node, and the flush in the same step takes every request that names it. -/
theorem suspendedStaysUnnamed : Obligations.SuspendedStaysUnnamed := by
  intro s t consistent distinct unnamed next
  have later : NodesDistinct t := addressesStayDistinct.1 s t distinct next
  rw [suspendedUnnamed_iff distinct] at unnamed
  rw [suspendedUnnamed_iff later]
  exact step_keeps_beside (J := fun s => RequestsConsistent s ∧ NodesDistinct s) (I := Unnamed)
    (fun m both => ⟨m.consistent both.1, m.nodesDistinct both.2⟩) (fun m both => m.unnamed both.1 both.2)
    (fun _ _ h => h) next ⟨consistent, distinct⟩ unnamed

/-! ### The slots by their use (R47, R194) -/

/-- Settles O49: the three queues list the WAITING and ACTIVE slots, the records the DONE ones. -/
theorem countsAddToThirtyTwo : Obligations.CountsAddToThirtyTwo := by
  rintro s ⟨queues, ⟨once, records⟩, active, -⟩
  refine ⟨fun j k activeJ activeK => ?_, ?_⟩
  · have holdsJ := (active j).mp activeJ
    rw [(active k).mp activeK, Option.some.injEq] at holdsJ
    exact holdsJ.symm
  · have inQueue (k : Fin 32) : k ∈ s.sched.exp ++ s.sched.std ++ s.sched.bkg ↔ (slotOf s k).queued = true := by
      refine ⟨fun mem => ?_, queues.listed⟩
      rcases List.mem_append.mp mem with early | inBkg
      · rcases List.mem_append.mp early with inExp | inStd
        · exact ((queues.1 .expedite k).mp inExp).1
        · exact ((queues.1 .standard k).mp inStd).1
      · exact ((queues.1 .background k).mp inBkg).1
    have inFree (k : Fin 32) : k ∈ slotsWith s (fun x => x.state == .free) ↔ (slotOf s k).state = .free :=
      mem_slotsWith.trans beq_iff_eq
    have apart : (s.sched.exp ++ s.sched.std ++ s.sched.bkg ++ s.completions.map CompletionRecord.slot).Nodup := by
      refine List.nodup_append.mpr ⟨queues.nodup_all, once, fun k queued j recorded same => ?_⟩
      have done := (records j).mp recorded
      have queued := (inQueue k).mp queued
      simp [Slot.queued, same, done] at queued
    have apartFree : (s.sched.exp ++ s.sched.std ++ s.sched.bkg ++ s.completions.map CompletionRecord.slot ++
        slotsWith s fun x => x.state == .free).Nodup := by
      refine List.nodup_append.mpr ⟨apart, nodup_slotsWith, fun k used j isFree same => ?_⟩
      have free := (inFree j).mp isFree
      rcases List.mem_append.mp used with queued | recorded
      · have queued := (inQueue k).mp queued
        simp [Slot.queued, same, free] at queued
      · have done := (records k).mp recorded
        simp [same, free] at done
    have total := length_of_all apartFree fun k => by
      rw [List.mem_append, List.mem_append, inQueue, records, inFree, Slot.queued_iff]
      cases (slotOf s k).state <;> simp
    simp only [List.length_append, List.length_map, ← tcount_slots] at total
    exact total

end Sys2Proof.Machine

/-! The Host Port: resets as the host sees them, SPI framing, the command word, the writes of words, the read transactions (chapter 10). -/

namespace Sys2Proof.Machine

/-! ### Resets (R181 to R183) -/

/-- Settles O4: the reset state block by block, and its register window word by word. -/
theorem resetRestoresEveryBlock : Obligations.ResetRestoresEveryBlock := by
  refine ⟨fun _ _ _ _ => rfl, ⟨fun k => ⟨tget_replicate _ k, tget_replicate _ k⟩, rfl, fun q => by cases q <;> rfl, rfl, rfl,
    fun i => tget_replicate _ i, rfl, rfl, rfl, rfl, rfl, rfl, rfl, rfl, fun j => ?capture, rfl,
    fun i => ?window, rfl, rfl, fun j => ?buffers, fun _ => rfl, rfl, rfl, rfl, rfl, rfl, rfl, rfl, rfl, rfl, rfl, rfl,
    rfl, rfl, rfl, rfl, rfl, rfl, rfl, rfl, rfl, rfl, rfl, rfl, rfl, rfl, rfl, rfl⟩, ?words⟩
  case capture => simp [State.reset, Engine.reset, bufferByte]
  case window =>
    have read : windowOf State.reset i = Window.reset := tget_replicate _ i
    rw [read]
    exact ⟨rfl, rfl, rfl⟩
  case buffers => simp [State.reset, Responder.reset, bufferByte]
  case words => decide +kernel

/-- Settles O5: SOFT_RESET in an open write transaction, its state block by block. -/
theorem softResetSplit : Obligations.SoftResetSplit := fun _ w => exec_softReset_open w

/-- Settles O48: what holds with every slot FREE, every entry unused and every window disabled. -/
theorem invariantsAtReset : Obligations.InvariantsAtReset := by
  have unused (i : Fin 16) (n : NodeEntry) : tget State.reset.nodes i ≠ some n := by simp [State.reset]
  have free (k : Fin 32) : slotOf State.reset k = Slot.free := tget_replicate _ k
  have window (i : Fin 8) : windowOf State.reset i = Window.reset := tget_replicate _ i
  refine ⟨reset_consistent rfl rfl rfl rfl, ?refs, ?tags, ?named, ?nodes, ?windows, ?holds, ?frames, ?notify, rfl, ?port⟩
  case refs =>
    refine ⟨fun k queued => ?_, fun i n used => absurd used (unused i n)⟩
    simp [free, Slot.free, Slot.queued] at queued
  case tags =>
    refine ⟨by decide, fun k live => ?_⟩
    simp [free, Slot.free, Slot.live] at live
  case named =>
    intro k queued
    simp [free, Slot.free, Slot.queued] at queued
  case nodes => exact ⟨fun i n used => absurd used (unused i n), fun i _ n _ used => absurd used (unused i n)⟩
  case windows => exact ⟨fun i on => by simp [window, Window.reset] at on, fun i _ on => by simp [window, Window.reset] at on⟩
  case holds => exact fun i => by simp [window, Window.reset]
  case frames => exact NoneInFrame.held (fun i => by rw [window]; rfl) (by decide)
  case notify =>
    unfold NotifyFits
    decide
  case port =>
    unfold PortConsistent PortHoldsEngine PortHoldsResponder PortHoldsRecovery
    decide +kernel

/-! ### SPI transactions (R184, R187) -/

/-- Settles O8: the three events of a transaction that is well formed. -/
theorem spiFraming : Obligations.SpiFraming := by
  refine fun s => ⟨fun closed => ?falls, fun header h valid => ?header, fun opened => ?rises⟩
  case falls =>
    have opens : openTransaction s =
        s.setHost { s.host with txn := .header, frozen := [], miso := none, shifting := false } := by
      unfold openTransaction
      rw [if_pos closed]
    exact congrArg Host.Outcome.next opens
  case header =>
    have takes : takeHeader h s =
        s.setHost { s.host with pointer := h.extractLsb' 0 9, txn := if h.getLsbD 15 then .reading else .writing } := by
      unfold takeHeader
      rw [if_pos header, if_pos ((headerValid_iff h).mpr valid)]
    exact congrArg Host.Outcome.next takes
  case rises => exact congrArg Host.Outcome.next (closeTransaction_open opened)

/-! ### Whole writes (R186) -/

/-- A whole write in an open write transaction: its effect, and the pointer rises. -/
theorem wordWrite_open {a : BitVec 9} {s : State} (w : WriteOpen a s) (effect : State → State) :
    wordWrite a effect s = pointerUp (effect s) := by
  obtain ⟨writing, pointer⟩ := w
  simp [wordWrite, canWrite, writing, pointer]

/-- An effect that leaves the Host Port as it found it: only the pointer rises. -/
theorem wordWrite_taken {a : BitVec 9} {s t : State} (w : WriteOpen a s) {effect : State → State} (h : effect s = t)
    (host : t.host = s.host) : wordWrite a effect s = t.setHost (wordTaken s.host) := by
  rw [wordWrite_open w, h]
  unfold pointerUp
  rw [host]
  rfl

/-! ### The command word (R189) -/

/-- A write of the command word with this code, where the code stands for this body. -/
theorem commandWord_row {w : Word} {s : State} {c : BitVec 8} {body : State → Reply} (code : w.extractLsb' 0 8 = c)
    (listed : commandBody c (w.extractLsb' 16 16) = body) :
    exec (.registerWrite 0x004 w) s = .next (hostCommand body s) := by
  calc exec (.registerWrite 0x004 w) s
    _ = .next (hostCommand (commandBody (w.extractLsb' 0 8) (w.extractLsb' 16 16)) s) := rfl
    _ = .next (hostCommand body s) := by rw [code, listed]

/-- A code that the table of R189 does not list. -/
theorem commandBody_unlisted {code : BitVec 8} (h : listedCodes.contains code = false) (arg : BitVec 16) :
    commandBody code arg = badCommandReply := by
  simp only [listedCodes, List.contains_eq_mem, List.mem_cons, List.not_mem_nil, or_false, decide_eq_false_iff_not,
    not_or] at h
  simp only [commandBody, h, if_false]

/-- Settles O10: code by code. -/
theorem commandWordIsItsRow : Obligations.CommandWordIsItsRow := by
  intro w s
  refine ⟨fun is => commandWord_row is rfl, fun is => commandWord_row is rfl, fun is => commandWord_row is rfl,
    fun is => commandWord_row is rfl, fun is => commandWord_row is rfl, fun is => commandWord_row is rfl,
    fun is => commandWord_row is rfl, fun is => commandWord_row is rfl, fun is => commandWord_row is rfl,
    fun is => commandWord_row is rfl, fun is => commandWord_row is rfl, fun is => commandWord_row is rfl,
    fun is => commandWord_row is rfl, fun is => commandWord_row is rfl, fun is => commandWord_row is rfl,
    fun is => commandWord_row is rfl, fun wellFormed => ?_⟩
  have unlisted : listedCodes.contains (w.extractLsb' 0 8) = false := by simpa [Instr.wellFormed] using wellFormed
  have row : exec (.badCommand (w.extractLsb' 0 8)) s = .next (hostCommand badCommandReply s) := by
    show execBadCommand (w.extractLsb' 0 8) s = _
    unfold execBadCommand
    rw [unlisted]
    rfl
  refine ⟨(commandWord_row rfl (commandBody_unlisted unlisted _)).trans row.symm, fun opened => ?_⟩
  have posts : pointerUp (runCommand badCommandReply s) = s.setHost (posted .badCommand 0 s.host) := runCommand_posted rfl
  rw [row, hostCommand_open opened, posts]
  rfl

/-! ### Configuration, limits, events and enables (R42, R170, R171, R191, R192) -/

/-- INT# is low exactly where an enabled flag is set (R191, R192). -/
theorem intHigh_iff (s : State) :
    intHigh s = false ↔ ∃ i, s.events.flags.getLsbD i = true ∧ s.events.enables.getLsbD i = true := by
  unfold intHigh
  rw [beq_eq_false_iff_ne, ne_eq, BitVec.eq_of_getLsbD_eq_iff, Classical.not_forall]
  constructor
  · rintro ⟨i, set⟩
    have both : i < 11 ∧ s.events.flags.getLsbD i = true ∧ s.events.enables.getLsbD i = true := by simpa using set
    exact ⟨i, both.2⟩
  · rintro ⟨i, flag, enable⟩
    refine ⟨i, ?_⟩
    have inside : i < 11 := BitVec.lt_of_getLsbD flag
    simp [inside, flag, enable]

/-- Settles O11: each word by its effect in an open write transaction. -/
theorem configurationAndEventWords : Obligations.ConfigurationAndEventWords := by
  refine ⟨fun w s => ⟨fun opened => ⟨fun disabled => ?_, fun other => ?_⟩, fun opened => ?_, fun opened => ?_⟩,
    fun w s opened => ?_, fun w s opened => ?_, fun s => ⟨rfl, rfl, intHigh_iff s⟩⟩
  · exact congrArg Host.Outcome.next (wordWrite_taken opened (effect := writePortConfiguration w) (if_pos disabled) rfl)
  · exact congrArg Host.Outcome.next (wordWrite_taken opened (effect := writePortConfiguration w) (if_neg other) rfl)
  · exact congrArg Host.Outcome.next (wordWrite_taken opened (effect := writeTiming w) rfl rfl)
  · exact congrArg Host.Outcome.next (wordWrite_taken opened (effect := writeQueueLimits w) rfl rfl)
  · exact congrArg Host.Outcome.next (wordWrite_taken opened (effect := writeEvents w) rfl rfl)
  · exact congrArg Host.Outcome.next (wordWrite_taken opened (effect := writeEnables w) rfl rfl)

/-- The fields of the timing configuration word (R196). -/
theorem timingConfigurationWord_fields (c : Cfg) : (timingConfigurationWord c).extractLsb' 0 8 = c.stuckLimit ∧
    (timingConfigurationWord c).extractLsb' 8 4 = c.passLimit :=
  ⟨BitVec.extractLsb'_append_eq_right,
    (BitVec.extractLsb'_append_eq_of_le (by decide)).trans BitVec.extractLsb'_append_eq_right⟩

/-- Settles O12: the limits as they are stored, and the next tick at the stuck timer. -/
theorem stuckLimitWrite : Obligations.StuckLimitWrite := by
  refine ⟨fun a b c s => ⟨_, rfl, rfl⟩, fun s opened => ⟨_, exec_softReset_open opened, rfl⟩, fun w s opened => ?_⟩
  refine ⟨_, congrArg Host.Outcome.next (wordWrite_taken opened (effect := writeTiming w) rfl rfl), fun some => ?_,
    fun none => ?_, rfl, rfl, ⟨_, rfl, fun advances => ?_⟩, timingConfigurationWord_fields _⟩
  · exact if_neg some
  · exact if_pos none
  · have ticks {u : State} (h : stuckAdvances u = true) : (msTick u).line = { u.line with
        stuckMs := u.line.stuckMs + 1
        stuckDue := u.line.stuckDue || decide (u.cfg.stuckLimit.toNat ≤ u.line.stuckMs + 1) } := by
      show stuckTick u = _
      unfold stuckTick
      rw [if_pos h]
    rw [ticks advances]
    exact ⟨rfl, rfl⟩

/-! ### Words and bytes (R147) -/

theorem wordByte_eq_extract (w : Word) (k : Nat) : wordByte w k = w.extractLsb' (24 - 8 * k) 8 := by
  apply BitVec.eq_of_toNat_eq
  simp [wordByte, BitVec.extractLsb'_toNat, Nat.shiftRight_eq_div_pow]

section
variable (b0 b1 b2 b3 : Byte)

theorem wordByte_wordOfBytes_3 : wordByte (wordOfBytes b0 b1 b2 b3) 3 = b3 :=
  (wordByte_eq_extract _ 3).trans BitVec.extractLsb'_append_eq_right

theorem wordByte_wordOfBytes_2 : wordByte (wordOfBytes b0 b1 b2 b3) 2 = b2 :=
  calc wordByte (wordOfBytes b0 b1 b2 b3) 2
    _ = (wordOfBytes b0 b1 b2 b3).extractLsb' 8 8 := wordByte_eq_extract _ 2
    _ = (b0 ++ b1 ++ b2).extractLsb' 0 8 := BitVec.extractLsb'_append_eq_of_le (by decide)
    _ = b2 := BitVec.extractLsb'_append_eq_right

theorem wordByte_wordOfBytes_1 : wordByte (wordOfBytes b0 b1 b2 b3) 1 = b1 :=
  calc wordByte (wordOfBytes b0 b1 b2 b3) 1
    _ = (wordOfBytes b0 b1 b2 b3).extractLsb' 16 8 := wordByte_eq_extract _ 1
    _ = (b0 ++ b1 ++ b2).extractLsb' 8 8 := BitVec.extractLsb'_append_eq_of_le (by decide)
    _ = (b0 ++ b1).extractLsb' 0 8 := BitVec.extractLsb'_append_eq_of_le (by decide)
    _ = b1 := BitVec.extractLsb'_append_eq_right

theorem wordByte_wordOfBytes_0 : wordByte (wordOfBytes b0 b1 b2 b3) 0 = b0 :=
  calc wordByte (wordOfBytes b0 b1 b2 b3) 0
    _ = (wordOfBytes b0 b1 b2 b3).extractLsb' 24 8 := wordByte_eq_extract _ 0
    _ = (b0 ++ b1 ++ b2).extractLsb' 16 8 := BitVec.extractLsb'_append_eq_of_le (by decide)
    _ = (b0 ++ b1).extractLsb' 8 8 := BitVec.extractLsb'_append_eq_of_le (by decide)
    _ = b0 := BitVec.extractLsb'_append_eq_left

end

/-- The bytes of a word put together from four. -/
theorem wordByte_wordOfBytes (f : Nat → Byte) {j : Nat} (inside : j < 4) :
    wordByte (wordOfBytes (f 0) (f 1) (f 2) (f 3)) j = f j := by
  match j, inside with
  | 0, _ => exact wordByte_wordOfBytes_0 ..
  | 1, _ => exact wordByte_wordOfBytes_1 ..
  | 2, _ => exact wordByte_wordOfBytes_2 ..
  | 3, _ => exact wordByte_wordOfBytes_3 ..

/-- A word is its four bytes. -/
theorem wordOfBytes_wordByte (w : Word) : wordOfBytes (wordByte w 0) (wordByte w 1) (wordByte w 2) (wordByte w 3) = w := by
  simp only [wordByte_eq_extract, wordOfBytes]
  ext i inside
  grind

end Sys2Proof.Machine

/-! The words of the register window: what a whole write stores, what a read takes, what each word reads (R186 to R188, section 10.8). -/

namespace Sys2Proof.Machine

/-! ### Whole writes at other words (R188) -/

theorem exec_registerWrite (a : BitVec 9) (w : Word) (s : State) :
    exec (.registerWrite a w) s = .next (wordWrite a (wordEffect a.toNat w) s) := rfl

/-- A whole write whose effect leaves the Host Port as it found it. -/
theorem exec_registerWrite_taken {a : BitVec 9} {w : Word} {s t : State} (opened : WriteOpen a s)
    (effect : wordEffect a.toNat w s = t) (host : t.host = s.host) :
    exec (.registerWrite a w) s = .next (t.setHost (wordTaken s.host)) :=
  congrArg Host.Outcome.next (wordWrite_taken opened effect host)

theorem wordEffect_staging {a : Nat} (i : Fin 21) (is : a = 0x040 + i.val) (w : Word) (s : State) :
    wordEffect a w s = s.setEdit { s.edit with staging := tset s.edit.staging i (w &&& maskStaging i.val) } := by
  have inside := i.isLt
  subst is
  unfold wordEffect
  rw [if_neg (by omega), if_neg (by omega), if_neg (by omega), if_neg (by omega), if_neg (by omega), if_neg (by omega),
    if_neg (by omega), if_neg (by omega), if_neg (by omega), if_neg (by omega), if_pos (by omega)]
  simp only [writeStaging, Nat.add_sub_cancel_left, inside, dite_true]

theorem wordEffect_page {a : Nat} (above : 0x100 ≤ a) (w : Word) (s : State) :
    wordEffect a w s = s.setPage (s.page.writeWord (a - 0x100) w) := by
  unfold wordEffect
  rw [if_neg (by omega), if_neg (by omega), if_neg (by omega), if_neg (by omega), if_neg (by omega), if_neg (by omega),
    if_neg (by omega), if_neg (by omega), if_neg (by omega), if_neg (by omega), if_neg (by omega), if_pos above]

/-- The words below the pages that a whole write changes, but for the staging area (R188). -/
def writableWords : List (BitVec 9) := [0x001, 0x002, 0x003, 0x004, 0x006, 0x007, 0x010, 0x011, 0x012, 0x013]

theorem wordEffect_ignored {a : BitVec 9} (low : a.toNat < 0x100) (unstaged : a.toNat < 0x040 ∨ 0x054 < a.toNat)
    (unlisted : a ∉ writableWords) (w : Word) (s : State) : wordEffect a.toNat w s = s := by
  have other (n : Nat) (listed : BitVec.ofNat 9 n ∈ writableWords) : ¬ a.toNat = n := by
    intro is
    rw [← is, BitVec.ofNat_toNat, BitVec.setWidth_eq] at listed
    exact unlisted listed
  unfold wordEffect
  rw [if_neg (other 0x001 (by decide)), if_neg (other 0x002 (by decide)), if_neg (other 0x003 (by decide)),
    if_neg (other 0x004 (by decide)), if_neg (other 0x006 (by decide)), if_neg (other 0x007 (by decide)),
    if_neg (other 0x010 (by decide)), if_neg (other 0x011 (by decide)), if_neg (other 0x012 (by decide)),
    if_neg (other 0x013 (by decide)), if_neg (by omega), if_neg (by omega)]

/-- A word of page memory written: its four bytes, and no other (R147, R148). -/
theorem read_writeWord {m : Memory} (wf : m.wf = true) {n : Nat} (inside : n < 256) (w : Word) (x : Nat) :
    (m.writeWord n w).read x = if 4 * n ≤ x ∧ x < 4 * n + 4 then wordByte w (x - 4 * n) else m.read x := by
  unfold Memory.writeWord
  have pages : Config.pageBytes = 1024 := rfl
  split
  · rename_i among
    obtain ⟨j, rfl⟩ := Nat.exists_eq_add_of_le among.1
    have below : j < 4 := by omega
    rw [Memory.read_writeBytes_inside _ m (4 * n) j wf (by rw [pages]; simp; omega) (by simpa using below),
      Nat.add_sub_cancel_left]
    match j, below with
    | 0, _ | 1, _ | 2, _ | 3, _ => rfl
  · exact Memory.read_writeBytes_outside x _ m (4 * n) wf (by simp; omega)

theorem readLive_page {a : BitVec 9} (above : 0x100 ≤ a.toNat) (s : State) :
    readLive s a = s.page.readWord (a.toNat - 0x100) := by
  unfold readLive
  rw [if_neg (by omega)]
  unfold readHigh
  rw [if_neg (by omega), if_neg (by omega), if_neg (by omega), if_neg (by omega), dif_neg (by omega), if_pos above]

theorem readWord_writeWord {m : Memory} (wf : m.wf = true) {n : Nat} (inside : n < 256) (w : Word) :
    (m.writeWord n w).readWord n = w := by
  have byte (j : Nat) (below : j < 4) : (m.writeWord n w).read (4 * n + j) = wordByte w j := by
    rw [read_writeWord wf inside, if_pos (by omega), Nat.add_sub_cancel_left]
  calc (m.writeWord n w).readWord n
    _ = wordOfBytes (wordByte w 0) (wordByte w 1) (wordByte w 2) (wordByte w 3) := by
      unfold Memory.readWord
      rw [byte 1 (by omega), byte 2 (by omega), byte 3 (by omega), show (m.writeWord n w).read (4 * n) = _ from byte 0 (by omega)]
    _ = w := wordOfBytes_wordByte w

/-- Settles O13: word by word. -/
theorem registerWriteStores : Obligations.RegisterWriteStores := by
  intro a w s opened
  have small := a.isLt
  refine ⟨?node0, ?node1, ?window0, ?window1, fun i is => ?staging, fun above wf => ?page, fun low unstaged unlisted => ?other⟩
  case node0 =>
    rintro rfl
    exact exec_registerWrite_taken (t := s.setEdit { s.edit with node0 := w &&& maskNode0 }) opened rfl rfl
  case node1 =>
    rintro rfl
    exact exec_registerWrite_taken (t := s.setEdit { s.edit with node1 := w &&& maskNode1 }) opened rfl rfl
  case window0 =>
    rintro rfl
    exact exec_registerWrite_taken (t := s.setEdit { s.edit with window0 := w &&& maskWindow0 }) opened rfl rfl
  case window1 =>
    rintro rfl
    exact exec_registerWrite_taken (t := s.setEdit { s.edit with window1 := w &&& maskWindow1 }) opened rfl rfl
  case staging =>
    rw [exec_registerWrite_taken opened (wordEffect_staging i is w s) rfl]
    rfl
  case page =>
    have inside : a.toNat - 0x100 < 256 := by omega
    have answer := exec_registerWrite_taken opened (wordEffect_page above w s) (State.setPage_host ..)
    have live (m : Memory) : readLive (s.setPage m) a = m.readWord (a.toNat - 0x100) := readLive_page above _
    generalize a.toNat - 0x100 = n at answer live inside ⊢
    exact ⟨s.page.writeWord n w, answer, Memory.writeWord_wf _ n w wf, (live _).trans (readWord_writeWord wf inside w),
      read_writeWord wf inside w⟩
  case other => exact exec_registerWrite_taken opened (wordEffect_ignored low unstaged unlisted w s) rfl

/-! ### Read transactions (R187) -/

theorem lookup_map_self {β : Type} (f : Nat → β) {k : Nat} {l : List Nat} (mem : k ∈ l) :
    (l.map fun x => (x, f x)).lookup k = some (f k) := by
  induction l with
  | nil => cases mem
  | cons x rest ih =>
    rw [List.map_cons, List.lookup_cons]
    by_cases same : k = x
    · simp [same]
    · rw [beq_false_of_ne same]
      exact ih ((List.mem_cons.mp mem).resolve_left same)

/-- The words frozen together are the words of one group. -/
theorem mem_groupOf {a b : Nat} (h : SameGroup a b) : b ∈ groupOf a := by
  unfold groupOf
  rcases h with ⟨lowA, highA, lowB, highB⟩ | ⟨isA, isB⟩ | ⟨lowA, highA, half⟩ | ⟨lowA, highA, half⟩
  · rw [if_pos ⟨lowA, highA⟩, List.mem_map]
    exact ⟨b - 0x060, List.mem_range.mpr (by omega), by omega⟩
  · rw [if_neg (by omega), if_pos isA]
    simpa using isB
  · rw [if_neg (by omega), if_neg (by omega), if_pos (.inl ⟨lowA, highA⟩), List.mem_cons, List.mem_singleton]
    omega
  · rw [if_neg (by omega), if_neg (by omega), if_pos (.inr ⟨lowA, highA⟩), List.mem_cons, List.mem_singleton]
    omega

/-- A word of a group is in its own group. -/
theorem SameGroup.refl_left {a b : Nat} (h : SameGroup a b) : SameGroup a a := by
  rcases h with ⟨low, high, -, -⟩ | ⟨is, -⟩ | ⟨low, high, -⟩ | ⟨low, high, -⟩
  · exact .inl ⟨low, high, low, high⟩
  · exact .inr (.inl ⟨is, is⟩)
  · exact .inr (.inr (.inl ⟨low, high, rfl⟩))
  · exact .inr (.inr (.inr ⟨low, high, rfl⟩))

/-- Settles O14: the word taken, and the group frozen with it. -/
theorem readsTakeFrozenGroups : Obligations.ReadsTakeFrozenGroups := by
  refine ⟨fun s idle_ due reading turn => ⟨frozenFor s s.host.pointer.toNat, ?_⟩,
    fun s t a b atA group unfrozen frozen atB => ?_⟩
  · have turns : readTurn s = true := by simp [readTurn, reading, turn]
    calc step s = .next (idle s) := by unfold step; rw [idle_]
      _ = .next (takeReadWord s) := by unfold idle; rw [due]; simp only [turns, if_true]
  · have freezes : t.host.frozen = s.host.frozen ++ freezeGroup s a := by
      rw [frozen]
      show frozenFor s s.host.pointer.toNat = _
      unfold frozenFor
      rw [atA, unfrozen a group.refl_left]
      rfl
    have frozenWord : (freezeGroup s a).lookup b = some (readLive s (BitVec.ofNat 9 b)) :=
      lookup_map_self (fun x => readLive s (BitVec.ofNat 9 x)) (mem_groupOf group)
    have pointer : BitVec.ofNat 9 b = t.host.pointer := by rw [← atB, BitVec.ofNat_toNat, BitVec.setWidth_eq]
    unfold readValue
    rw [atB, freezes, List.lookup_append, unfrozen b group, frozenWord, pointer]
    rfl

/-! ### What each word reads (R188, section 10.8) -/

/-- Below the staging area. -/
theorem readLive_low {a : BitVec 9} (low : a.toNat < 0x040) (s : State) : readLive s a = readLow s a.toNat := if_pos low

/-- From the staging area up. -/
theorem readLive_high {a : BitVec 9} (high : 0x040 ≤ a.toNat) (s : State) : readLive s a = readHigh s a.toNat :=
  if_neg (by omega)

theorem readLive_staging {a : BitVec 9} (i : Fin 21) (is : a.toNat = 0x040 + i.val) (s : State) :
    readLive s a = tget s.edit.staging i := by
  have inside := i.isLt
  rw [readLive_high (by omega), is]
  unfold readHigh
  rw [if_pos (by omega), Nat.add_sub_cancel_left]
  unfold stagingWord
  rw [dif_pos inside]

theorem readLive_node {a : BitVec 9} (i : Fin 16) (second : Bool)
    (is : a.toNat = 0x020 + 2 * i.val + if second then 1 else 0) (s : State) :
    readLive s a = nodeViewWord (tget s.nodes i) second := by
  have inside := i.isLt
  have bound : a.toNat < 0x040 ∧ 0x020 ≤ a.toNat := by split at is <;> omega
  rw [readLive_low bound.1]
  unfold readLow
  rw [if_neg (by omega), if_neg (by omega), if_neg (by omega), if_neg (by omega), if_neg (by omega), if_neg (by omega),
    if_neg (by omega), if_neg (by omega), if_neg (by omega), if_neg (by omega), if_neg (by omega), if_neg (by omega),
    if_neg (by omega), if_neg (by omega), if_pos (by omega)]
  have entry : (a.toNat - 0x020) / 2 = i.val := by split at is <;> omega
  have part : secondOf a.toNat = second := by
    unfold secondOf
    cases second <;> simp_all
    omega
  rw [entry, part]
  unfold nodeEntryAt
  rw [dif_pos inside]

theorem readLive_window {a : BitVec 9} (i : Fin 8) (second : Bool)
    (is : a.toNat = 0x080 + 2 * i.val + if second then 1 else 0) (s : State) :
    readLive s a = windowViewWord (windowOf s i) second := by
  have inside := i.isLt
  have bound : 0x080 ≤ a.toNat ∧ a.toNat ≤ 0x08F := by split at is <;> omega
  rw [readLive_high (by omega)]
  unfold readHigh
  rw [if_neg (by omega), if_neg (by omega), if_neg (by omega), if_neg (by omega), dif_pos bound]
  have entry : (a.toNat - 0x080) / 2 = i.val := by split at is <;> omega
  have part : secondOf a.toNat = second := by
    unfold secondOf
    cases second <;> simp_all
    omega
  simp only [entry, part]

theorem readLive_headData {a : BitVec 9} {m : Nat} (is : a.toNat = 0x062 + m) (inside : m < 16) (s : State) :
    readLive s a = headDataWord s m := by
  rw [readLive_high (by omega), is]
  unfold readHigh
  rw [if_neg (by omega), if_neg (by omega), if_pos (by omega), Nat.add_sub_cancel_left]

/-- The words that hold nothing. -/
theorem readLive_unlisted {a : BitVec 9} (h : a = 0x004 ∨ (0x00B ≤ a.toNat ∧ a.toNat ≤ 0x00F) ∨
    (0x014 ≤ a.toNat ∧ a.toNat ≤ 0x01F) ∨ (0x055 ≤ a.toNat ∧ a.toNat ≤ 0x05F) ∨ (0x072 ≤ a.toNat ∧ a.toNat ≤ 0x077) ∨
    (0x079 ≤ a.toNat ∧ a.toNat ≤ 0x07F) ∨ (0x090 ≤ a.toNat ∧ a.toNat ≤ 0x0FF)) (s : State) : readLive s a = 0 := by
  have place : a.toNat = 0x004 ∨ (0x00B ≤ a.toNat ∧ a.toNat ≤ 0x00F) ∨ (0x014 ≤ a.toNat ∧ a.toNat ≤ 0x01F) ∨
      (0x055 ≤ a.toNat ∧ a.toNat ≤ 0x05F) ∨ (0x072 ≤ a.toNat ∧ a.toNat ≤ 0x077) ∨
      (0x079 ≤ a.toNat ∧ a.toNat ≤ 0x07F) ∨ (0x090 ≤ a.toNat ∧ a.toNat ≤ 0x0FF) := h.imp_left fun is => by rw [is]; rfl
  by_cases low : a.toNat < 0x040
  · rw [readLive_low low]
    unfold readLow
    rw [if_neg (by omega), if_neg (by omega), if_neg (by omega), if_neg (by omega), if_neg (by omega), if_neg (by omega),
      if_neg (by omega), if_neg (by omega), if_neg (by omega), if_neg (by omega), if_neg (by omega), if_neg (by omega),
      if_neg (by omega), if_neg (by omega), if_neg (by omega)]
  · rw [readLive_high (by omega)]
    unfold readHigh
    rw [if_neg (by omega), if_neg (by omega), if_neg (by omega), if_neg (by omega), dif_neg (by omega), if_neg (by omega)]

/-- Bits put behind others in two parts or in one. -/
theorem append_append_four {n : Nat} (x : BitVec n) (b : BitVec 1) (c : BitVec 3) :
    x ++ b ++ c = (x ++ (b ++ c : BitVec 4) : BitVec (n + 4)) := by
  ext i inside
  grind

theorem append_append_nine {n : Nat} (x : BitVec n) (b : BitVec 1) (c : BitVec 8) :
    x ++ b ++ c = (x ++ (b ++ c : BitVec 9) : BitVec (n + 9)) := by
  ext i inside
  grind

/-- Settles O59: word by word, each by the place of its fields. -/
theorem registerWindowWords : Obligations.RegisterWindowWords := by
  intro s
  refine ⟨rfl, rfl, rfl, rfl, rfl, rfl, rfl, rfl, rfl, rfl, rfl, rfl, fun none => ?result, fun k v last => ?posted, ?flags,
    ?enables, ?status, rfl, rfl, rfl, rfl, rfl, rfl, fun a i is => readLive_staging i is s,
    fun a b i isA isB => ?node, fun a b i isA isB => ?window, fun a m is inside => ?data, fun none => ?noNotify,
    fun r rest queue => ?notify, fun none => ?noRecord, fun r rest queue => ?record, fun a j above inside => ?page,
    fun a unlisted => readLive_unlisted unlisted s⟩
  case result =>
    show resultWord s.host = 0
    unfold resultWord
    rw [none]
  case posted =>
    show resultWord s.host = _
    unfold resultWord
    rw [last]
  case flags =>
    show s.events.flags.setWidth 32 = _
    ext i inside
    grind
  case enables =>
    show s.events.enables.setWidth 32 = _
    ext i inside
    grind
  case status =>
    show portStatusWord s = _
    unfold portStatusWord
    rw [append_append_four _ (BitVec.ofBool s.hold.stallWindow.isSome)]
    cases s.hold.stallWindow <;> rfl
  case node =>
    have first := readLive_node i false isA s
    have second := readLive_node (a := b) i true (by simp only [isB, if_true]; omega) s
    rw [first, second]
    refine ⟨fun unused => by rw [unused]; exact ⟨rfl, rfl⟩, fun n used => ?_⟩
    rw [used]
    refine ⟨?_, rfl⟩
    cases state : n.state <;> simp only [nodeViewWord, state] <;> rfl
  case window =>
    have first := readLive_window i false isA s
    have second := readLive_window (a := b) i true (by simp only [isB, if_true]; omega) s
    rw [first, second]
    refine ⟨rfl, ?_⟩
    unfold windowViewWord
    rw [if_pos rfl]
    generalize windowOf s i = w
    have hold : BitVec.ofNat 2 (holdCode w.hold) = match w.hold with | .open => 0#2 | .pending => 1#2 | .held => 2#2 := by
      cases w.hold <;> rfl
    have contention : BitVec.ofNat 1 (contentionCode w.contention) =
        match w.contention with | .answerBusy => 0#1 | .stall => 1#1 := by
      cases w.contention <;> rfl
    have access : BitVec.ofNat 2 (accessCode w.access) =
        match w.access with | .readWrite => 0#2 | .readOnly => 1#2 | .writeOnly => 2#2 | .code3 => 3#2 := by
      cases w.access <;> rfl
    rw [hold, contention, access] <;> rfl
  case data =>
    rw [readLive_headData is inside]
    refine ⟨fun none => by unfold headDataWord; rw [none], fun r rest queue j below => ?_⟩
    unfold headDataWord
    rw [queue]
    exact wordByte_wordOfBytes (fun j => bufferByte (slotOf s r.slot).data (4 * m + j)) below
  case noNotify =>
    rw [readLive_notifyHead, none]
    rfl
  case notify =>
    rw [readLive_notifyHead, queue]
    rfl
  case noRecord =>
    show headRecordWord s.completions false = 0 ∧ headRecordWord s.completions true = 0
    rw [none]
    exact ⟨rfl, rfl⟩
  case record =>
    show headRecordWord s.completions false = _ ∧ headRecordWord s.completions true = _
    rw [queue]
    refine ⟨rfl, ?_⟩
    simp only [headRecordWord, if_true]
    rw [append_append_nine _ (BitVec.ofBool r.failNode.isSome)]
    cases r.failNode <;> rfl
  case page =>
    rw [readLive_page above]
    generalize a.toNat - 0x100 = n
    exact wordByte_wordOfBytes (fun j => s.page.read (4 * n + j)) inside

end Sys2Proof.Machine

/-! The host's commands on requests and nodes, the attempt end and the choice (chapters 2, 3, 4, 6): each by its cases. -/

namespace Sys2Proof.Machine

/-! ### A command with its result posted (R189) -/

/-- What a command answers that neither reads nor changes the Host Port. -/
theorem hostCommand_posted {s t : State} {body : State → Reply} {c : ResultCode} {v : Byte} (opened : WriteOpen 0x004 s)
    (answer : ∀ p, body (s.setHost p) = { state := t.setHost p, code := c, value := v }) :
    (Host.Outcome.next (hostCommand body s) : Answer) = .next { t with host := posted c v s.host } := by
  rw [hostCommand_open opened, runCommand_posted (answer _)]
  rfl

/-- A command that a choice follows. -/
theorem hostCommand_chooses {s u : State} {body : State → Reply} {c : ResultCode} {v : Byte} (opened : WriteOpen 0x004 s)
    (answer : ∀ p, body (s.setHost p) = { state := choose (u.setHost p), code := c, value := v }) :
    (Host.Outcome.next (hostCommand body s) : Answer) = .next { choose u with host := posted c v s.host } :=
  hostCommand_posted opened fun p => by rw [answer, choose_setHost]

/-! ### SUBMIT (R38, R39) -/

theorem placeRequest_setHost (k : Fin 32) (q : QueueName) (c : List Frame) (s : State) (p : HostPort) :
    placeRequest k q c (s.setHost p) = (placeRequest k q c s).setHost p := by
  unfold placeRequest
  simp only [assignTag_setHost]
  rfl

theorem names_chainOf {l : List RawFrame} (kinds : ∀ r ∈ l, r.kind ≠ none) (a : Byte) :
    names (chainOf l) a = l.any fun r => r.dest == a := by
  have dests := chainOf_dests kinds
  calc names (chainOf l) a
    _ = ((chainOf l).map Frame.dest).any (· == a) := by rw [List.any_map]; rfl
    _ = l.any fun r => r.dest == a := by rw [dests, List.any_map]; rfl

/-- Settles O17: the request that is placed, part by part, and the search for its tag. -/
theorem submitPlacesRequest : Obligations.SubmitPlacesRequest := by
  refine ⟨fun s q k opened passes queue free lowest => ?_, fun s counter ⟨k, free⟩ => ?_⟩
  · have passed := submitCheck_passes passes queue free lowest
    have kinds := passes.2.2.1 (by omega)
    refine ⟨placeRequest k q (chainOf (stagedFrames s)) s, ?_, ?_, chainOf_dests kinds, fun j other => ?_, rfl, ?_,
      fun p other => ?_, ?_, fun j other => ?_, ?_, ?_, fun i => ?_, rfl, rfl, rfl, rfl, rfl,
      (placeRequest_frame k q _ s).keepsRemoteSide⟩
    · refine hostCommand_chooses (body := submitCommand) opened fun p => ?_
      unfold submitCommand
      rw [submitCheck_setHost, passed]
      simp only [placeRequest_setHost, assignTag_setHost]
    · rw [slotOf_placeRequest, if_pos rfl]
      rfl
    · rw [slotOf_placeRequest, if_neg other]
    · rw [queueList_placeRequest, if_pos rfl]
    · rw [queueList_placeRequest, if_neg other]
    · exact (timerOf_setTimer k k _ _).trans (if_pos rfl)
    · exact (timerOf_setTimer k j _ _).trans (if_neg other) |>.trans (by cases q <;> rfl)
    · cases q <;> rfl
    · cases q <;> rfl
    · rw [tget_placeRequest_nodes]
      simp only [names_chainOf kinds]
  · obtain ⟨n, below, eq, unheld, before⟩ := assignTag_first counter free
    refine ⟨n, below, eq, eq ▸ (repeat_nextTag counter n).1, fun j live => findTag_none unheld live, fun m le => ?_⟩
    obtain ⟨j, held⟩ := Option.isSome_iff_exists.mp (before m le)
    exact ⟨j, findTag_some held⟩

/-! ### CANCEL and POP_COMPLETION (R119, R121 to R123) -/

/-- A number that fits a byte is the byte's number. -/
theorem byteArg_of_toNat {arg : BitVec 16} {b : Byte} (h : arg.toNat = b.toNat) : byteArg arg = some b := by
  have small := b.isLt
  unfold byteArg
  rw [if_pos (by omega), h, BitVec.ofNat_toNat, BitVec.setWidth_eq]

theorem byteArg_some {arg : BitVec 16} {b : Byte} (h : byteArg arg = some b) : arg.toNat = b.toNat := by
  unfold byteArg at h
  split at h
  · rename_i small
    cases h
    simp [Nat.mod_eq_of_lt small]
  · cases h

/-- The live slot that holds the tag is the one that a CANCEL finds (R29, R121). -/
theorem cancelTarget_live {s : State} (tags : TagsDistinct s) {arg : BitVec 16} {k : Fin 32} {tag : Byte}
    (number : arg.toNat = tag.toNat) (live : (slotOf s k).live = true) (held : (slotOf s k).tag = some tag) :
    cancelTarget arg s = some (k, tag) := by
  obtain ⟨t, eq, nonzero, only⟩ := tags.2 k live
  have same : tag = t := Option.some.inj (held.symm.trans eq)
  have found : findTag tag s = some k := by
    have some_ : (findTag tag s).isSome = true := by
      exact Classical.byContradiction fun none => findTag_none (Option.not_isSome_iff_eq_none.mp none) live held
    obtain ⟨j, at_⟩ := Option.isSome_iff_exists.mp some_
    obtain ⟨liveJ, tagJ⟩ := findTag_some at_
    rw [at_, only j liveJ (same ▸ tagJ)]
  unfold cancelTarget
  rw [byteArg_of_toNat number]
  simp only [same ▸ nonzero, if_false, found, Option.map_some]

theorem cancelTarget_none {s : State} {arg : BitVec 16}
    (h : ∀ k tag, (slotOf s k).live = true → (slotOf s k).tag = some tag → arg.toNat ≠ tag.toNat) :
    cancelTarget arg s = none := by
  unfold cancelTarget
  split
  · rfl
  · rename_i tag number
    split
    · rfl
    · cases found : findTag tag s with
      | none => rfl
      | some k =>
        obtain ⟨live, held⟩ := findTag_some found
        exact absurd (byteArg_some number) (h k tag live held)

/-- Settles O19: CANCEL by the state of its slot, POP_COMPLETION by its queue. -/
theorem cancelAndPopCompletion : Obligations.CancelAndPopCompletion := by
  refine ⟨fun s arg opened tags => ⟨fun k tag number live held => ?_, fun nobody => ?_⟩, fun s opened => ⟨fun r rest queue => ?_,
    fun empty => ?_⟩⟩
  · have target (p : HostPort) : cancelTarget arg (s.setHost p) = some (k, tag) := cancelTarget_live tags number live held
    refine ⟨fun waiting => ⟨complete k .cancelled false s, complete_completesAs .., ?_⟩, fun active => ?_, fun done => ?_⟩
    · refine hostCommand_chooses (body := cancelCommand arg) opened fun p => ?_
      unfold cancelCommand
      rw [target]
      simp only [slotOf_setHost, waiting, complete_setHost]
    · refine hostCommand_posted (body := cancelCommand arg)
        (t := setSlot k { slotOf s k with cancelPending := true } s) opened fun p => ?_
      unfold cancelCommand
      rw [target]
      simp only [slotOf_setHost, active]
      rfl
    · refine hostCommand_posted (body := cancelCommand arg) (t := s) opened fun p => ?_
      unfold cancelCommand
      rw [target]
      simp only [slotOf_setHost, done]
      rfl
  · refine hostCommand_posted (body := cancelCommand arg) (t := s) opened fun p => ?_
    have target : cancelTarget arg (s.setHost p) = none := cancelTarget_none nobody
    unfold cancelCommand
    rw [target]
    rfl
  · refine hostCommand_posted (body := popCompletionCommand) (t := setSlot r.slot Slot.free (s.setCompletions rest)) opened
      fun p => ?_
    simp only [popCompletionCommand, State.setHost_completions, queue]
    rfl
  · refine hostCommand_posted (body := popCompletionCommand) (t := s) opened fun p => ?_
    simp only [popCompletionCommand, State.setHost_completions, empty]
    rfl

/-! ### The attempt end (R104 to R109) -/

theorem returnOrExpire_lapsed {s : State} {k : Fin 32} (h : timerOf s k = .lapsed) :
    returnOrExpire k s = complete k .expired false s := if_pos h

theorem returnOrExpire_returns {s : State} {k : Fin 32} (h : timerOf s k ≠ .lapsed) :
    returnOrExpire k s = returnWaiting k s := if_neg h

theorem returnWaiting_setSlot (k : Fin 32) (x : Slot) (s : State) :
    returnWaiting k (setSlot k x s) = setSlot k { x with state := .waiting } s := by
  unfold returnWaiting
  rw [slotOf_setSlot_same]
  unfold setSlot
  simp only [State.setStore_store, tset_tset]
  rfl

theorem attemptEnd_table {r : FrameResult} (h : r ≠ .arbLost) (k : Fin 32) (won : Bool) (s : State) :
    attemptEnd k r won s = tableEnd k r won s := if_neg h

/-- Row 6's conditions as the statement says them (R105, R107). -/
theorem retried_iff (k : Fin 32) (r : FrameResult) (s : State) :
    (retriedResult r = true ∧ (slotOf s k).framesDone = 0 ∧ retryAllowed (slotOf s k) s = true) ↔
      (r = .busy ∨ r = .noResponse ∨ r = .badCheck ∨ r = .busFault) ∧ (slotOf s k).framesDone = 0 ∧
        ∃ f n, (slotOf s k).chain.head? = some f ∧ nodeAt f.dest s = some n ∧
          (slotOf s k).attempts ≤ n.retryLimit.toNat ∧ n.state ≠ .suspended := by
  have result : retriedResult r = true ↔ r = .busy ∨ r = .noResponse ∨ r = .badCheck ∨ r = .busFault := by
    cases r <;> decide
  have allowed : retryAllowed (slotOf s k) s = true ↔ ∃ f n, (slotOf s k).chain.head? = some f ∧
      nodeAt f.dest s = some n ∧ (slotOf s k).attempts ≤ n.retryLimit.toNat ∧ n.state ≠ .suspended := by
    unfold retryAllowed
    cases head : (slotOf s k).chain.head? with
    | none => simp
    | some f =>
      cases node : nodeAt f.dest s with
      | none => simp [node]
      | some n => simp [node]
  rw [result, allowed]

section
variable {s : State} {k : Fin 32} {r : FrameResult} {won : Bool}

theorem tableEnd_done (done : (slotOf s k).framesDone = (slotOf s k).chain.length) :
    tableEnd k r won s = complete k .done false s := if_pos done

theorem tableEnd_cancelled (open_ : (slotOf s k).framesDone ≠ (slotOf s k).chain.length)
    (cancel : (slotOf s k).cancelPending = true) : tableEnd k r won s = complete k .cancelled true s := by
  unfold tableEnd
  dsimp only
  rw [if_neg open_, if_pos cancel]

theorem tableEnd_returned (open_ : (slotOf s k).framesDone ≠ (slotOf s k).chain.length)
    (keeps : (slotOf s k).cancelPending = false) (stopping : s.port.state = .stopping) (first : (slotOf s k).framesDone = 0) :
    tableEnd k r won s = returnOrExpire k
      (if won = true ∧ timerOf s k ≠ .lapsed then setSlot k { slotOf s k with attempts := (slotOf s k).attempts - 1 } s
       else s) := by
  unfold tableEnd
  dsimp only
  rw [if_neg open_, if_neg (by simp [keeps]), if_pos ⟨stopping, first⟩]

theorem tableEnd_stopped (open_ : (slotOf s k).framesDone ≠ (slotOf s k).chain.length)
    (keeps : (slotOf s k).cancelPending = false) (stopping : s.port.state = .stopping) (later : (slotOf s k).framesDone ≠ 0) :
    tableEnd k r won s = complete k .portStopped true s := by
  unfold tableEnd
  dsimp only
  rw [if_neg open_, if_neg (by simp [keeps]), if_neg fun both => later both.2, if_pos stopping]

/-- The rows of a port that is not STOPPING. -/
theorem tableEnd_running (open_ : (slotOf s k).framesDone ≠ (slotOf s k).chain.length)
    (keeps : (slotOf s k).cancelPending = false) (goesOn : s.port.state ≠ .stopping) : tableEnd k r won s =
      if r = .busStuck then complete k .busStuck true s
      else if retriedResult r ∧ (slotOf s k).framesDone = 0 ∧ retryAllowed (slotOf s k) s then returnOrExpire k s
      else complete k (outcomeOf r) true s := by
  unfold tableEnd
  dsimp only
  rw [if_neg open_, if_neg (by simp [keeps]), if_neg fun both => goesOn both.1, if_neg goesOn]

end

/-- The slot of an attempt lost in arbitration (R104). -/
def Slot.lost (x : Slot) : Slot := { x with arbLosses := min 255 (x.arbLosses + 1) }

theorem attemptEnd_lost (k : Fin 32) (won : Bool) (s : State) : attemptEnd k .arbLost won s =
    if (slotOf s k).cancelPending = true then complete k .cancelled true (setSlot k (slotOf s k).lost s)
    else returnOrExpire k (setSlot k (slotOf s k).lost s) := rfl

/-- Settles O21: row by row. -/
theorem attemptEndTable : Obligations.AttemptEnd := by
  constructor
  · intro k won s
    rw [attemptEnd_lost]
    have lapse : timerOf (setSlot k (slotOf s k).lost s) k = timerOf s k := rfl
    refine ⟨fun cancel => ?_, fun keeps lapsed => ?_, fun keeps runs => ?_⟩
    · have cancel : (slotOf s k).cancelPending = true := cancel
      rw [if_pos cancel]
      exact complete_completesAs ..
    · have keeps : (slotOf s k).cancelPending = false := keeps
      rw [if_neg (by simp [keeps]), returnOrExpire_lapsed (lapse.trans lapsed)]
      exact complete_completesAs ..
    · have keeps : (slotOf s k).cancelPending = false := keeps
      rw [if_neg (by simp [keeps]), returnOrExpire_returns (by rw [lapse]; exact runs), returnWaiting_setSlot]
      rfl
  · intro k r won s notLost
    simp only [attemptEnd_table notLost]
    refine ⟨fun done => ?_, fun open_ => ⟨fun cancel => ?_, fun keeps => ⟨fun stopping first => ⟨fun runs => ?_,
      fun lapsed => ?_⟩, fun stopping later => ?_, fun goesOn => ?_⟩⟩⟩
    · rw [tableEnd_done done]
      exact complete_completesAs ..
    · rw [tableEnd_cancelled open_ cancel]
      exact complete_completesAs ..
    · rw [tableEnd_returned open_ keeps stopping first]
      cases won with
      | true =>
        rw [if_pos ⟨rfl, runs⟩,
          returnOrExpire_returns (s := setSlot k { slotOf s k with attempts := (slotOf s k).attempts - 1 } s) runs,
          returnWaiting_setSlot]
        rfl
      | false =>
        rw [if_neg (by simp), returnOrExpire_returns runs]
        rfl
    · rw [tableEnd_returned open_ keeps stopping first, if_neg fun both => both.2 lapsed, returnOrExpire_lapsed lapsed]
      exact complete_completesAs ..
    · rw [tableEnd_stopped open_ keeps stopping later]
      exact complete_completesAs ..
    · simp only [tableEnd_running open_ keeps goesOn]
      have notStuck {r : FrameResult} (h : retriedResult r = true) : r ≠ .busStuck := by
        rintro rfl
        cases h
      refine ⟨fun stuck => ?_, fun retried runs => ?_, fun retried lapsed => ?_, fun ends => ?_⟩
      · rw [if_pos stuck]
        exact complete_completesAs ..
      · have row := (retried_iff k r s).mpr retried
        rw [if_neg (notStuck row.1), if_pos row, returnOrExpire_returns runs]
        rfl
      · have row := (retried_iff k r s).mpr retried
        rw [if_neg (notStuck row.1), if_pos row, returnOrExpire_lapsed lapsed]
        exact complete_completesAs ..
      · have noRow := fun row => ends ((retried_iff k r s).mp row)
        have fails {o : RequestOutcome} (outcome : outcomeOf r = o) (other : r ≠ .busStuck) : CompletesAs k o true s
            (if r = .busStuck then complete k .busStuck true s
             else if retriedResult r ∧ (slotOf s k).framesDone = 0 ∧ retryAllowed (slotOf s k) s then returnOrExpire k s
             else complete k (outcomeOf r) true s) := by
          rw [if_neg other, if_neg noRow, outcome]
          exact complete_completesAs ..
        refine ⟨?_, ?_, ?_, ?_, ?_, ?_, ?_⟩ <;> rintro rfl <;> exact fails rfl (by decide)

/-! ### The choice (R47, R50 to R54) -/

theorem choiceOpen_iff (s : State) : choiceOpen s = true ↔ MayChoose s := by
  unfold choiceOpen MayChoose
  simp [and_assoc]

theorem hasCandidate_iff (s : State) (q : QueueName) : hasCandidate s q = true ↔ candidate s q ≠ none := by
  unfold hasCandidate
  rw [Option.isSome_iff_ne_none]

/-- A pass counter at its limit, with a candidate of that queue (R50). -/
theorem limitReached_iff (s : State) (n : Nat) (q : QueueName) : (limitReached s n && hasCandidate s q) = true ↔
    s.cfg.passLimit ≠ 0 ∧ s.cfg.passLimit.toNat ≤ n ∧ candidate s q ≠ none := by
  unfold limitReached
  rw [Bool.and_eq_true, Bool.and_eq_true, hasCandidate_iff, and_assoc]
  simp

/-- The queue by the first step of R50 that applies. -/
theorem chosenQueue_of_choice {s : State} {q : QueueName} {k : Fin 32} (h : ChoiceFallsOn s q k) :
    chosenQueue s = some q := by
  obtain ⟨found, steps⟩ := h
  have none_ {p : QueueName} (h : candidate s p = none) : ¬ hasCandidate s p = true := fun has => (hasCandidate_iff s p).mp has h
  have own : hasCandidate s q = true := (hasCandidate_iff s q).mpr (by simp [found])
  unfold chosenQueue
  simp only [limitReached_iff]
  cases q with
  | expedite =>
    obtain ⟨noBackground, noStandard⟩ := steps
    rw [if_neg noBackground, if_neg noStandard, if_pos own]
  | standard =>
    obtain ⟨noBackground, standard | noExpedite⟩ := steps
    · rw [if_neg noBackground, if_pos standard]
    · rw [if_neg noBackground, if_neg (none_ noExpedite), if_pos own, ite_self]
  | background =>
    rcases steps with background | ⟨noStandard, noExpedite, noStandardAtAll⟩
    · rw [if_pos background]
    · rw [if_neg noStandard, if_neg (none_ noExpedite), if_neg (none_ noStandardAtAll), if_pos own, ite_self]

theorem localTarget_iff (s : State) (c : List Frame) : localTarget s c = true ↔ NamesOwnWindow s c := by
  unfold localTarget NamesOwnWindow
  simp only [List.any_eq_true, tfind_isSome, Bool.and_eq_true, beq_iff_eq]
  rfl

/-- One round of a choice that falls on a request (R50, R54). -/
theorem chooseRounds_falls {s : State} {q : QueueName} {k : Fin 32} (may : MayChoose s) (falls : ChoiceFallsOn s q k)
    (n : Nat) : chooseRounds (n + 1) s =
      if localTarget s (slotOf s k).chain then chooseRounds n (complete k .localTarget false s) else activate q k s := by
  have queue := chosenQueue_of_choice falls
  have found := falls.1
  conv => lhs; unfold chooseRounds
  rw [if_pos ((choiceOpen_iff s).mpr may), queue]
  simp only [found]

/-- With no candidate the choice changes nothing. -/
theorem choose_no_candidate {s : State} (none : ∀ q, candidate s q = none) : choose s = s := by
  have no (q : QueueName) : hasCandidate s q = false := by
    unfold hasCandidate
    rw [none q]
    rfl
  have queue : chosenQueue s = Option.none := by simp [chosenQueue, no]
  unfold choose chooseRounds
  rw [queue]
  split <;> rfl

/-- The pass counters after a choice (R51). -/
theorem updatePasses_eq (s : State) (q : QueueName) : updatePasses s q =
    { s.sched with
      passStd :=
        if q = .standard then 0
        else if q = .expedite ∧ candidate s .standard ≠ none then min 15 (s.sched.passStd + 1)
        else s.sched.passStd
      passBkg :=
        if q = .background then 0
        else if candidate s .background ≠ none then min 15 (s.sched.passBkg + 1)
        else s.sched.passBkg } := by
  cases q <;> simp [updatePasses, hasCandidate_iff, passRaise]

/-- The wait limit of the frame that a choice begins with (R79). -/
theorem waitLimitFor_head {s : State} {c : List Frame} {f : Frame} {n : NodeEntry} (head : c.head? = some f)
    (node : nodeAt f.dest s = some n) : waitLimitFor s c 0 = n.waitLimitMs := by
  rw [List.head?_eq_getElem?] at head
  simp only [waitLimitFor, head, node, Option.map_some, Option.getD_some]

/-- Settles O22: the candidate by its search, the choice by one round. -/
theorem choiceRule : Obligations.ChoiceRule := by
  refine ⟨candidate_iff, fun s => ⟨fun closed => ?_, fun _ none => choose_no_candidate none,
    fun q k f n may falls remote head node => ?_⟩⟩
  · exact choose_closed (by rw [← Bool.not_eq_true, choiceOpen_iff]; exact closed)
  · have taken : choose s = activate q k s := by
      unfold choose
      rw [chooseRounds_falls may falls, if_neg fun here => remote ((localTarget_iff _ _).mp here)]
    have limit : waitLimitFor (setSlot k { slotOf s k with state := .active, framesDone := 0 } (s.setSched (updatePasses s q)))
        (slotOf s k).chain 0 = n.waitLimitMs := waitLimitFor_head head node
    rw [taken]
    unfold activate engineTake
    dsimp only
    rw [slotOf_setSlot_same, limit, updatePasses_eq]
    rfl

/-! ### LOCAL_TARGET (R54) -/

/-- The WAITING slots. -/
abbrev waitingSlots (s : State) : List (Fin 32) := slotsWith s fun x => x.state == .waiting

/-- A disposal takes one WAITING slot. -/
theorem waitingSlots_complete {s : State} {k : Fin 32} (waiting : (slotOf s k).state = .waiting) (o : RequestOutcome)
    (b : Bool) : (waitingSlots (complete k o b s)).length < (waitingSlots s).length := by
  have taken : waitingSlots (complete k o b s) = (waitingSlots s).erase k := by
    refine slotsWith_erase fun j => ?_
    rw [slotOf_complete]
    by_cases mine : j = k
    · simp [mine, doneSlot]
    · simp [mine]
  have mem : k ∈ waitingSlots s := mem_slotsWith.mpr (beq_iff_eq.mpr waiting)
  have some_ := List.length_pos_of_mem mem
  rw [taken, List.length_erase_of_mem mem]
  omega

/-- With more rounds than WAITING slots the last one is not needed. -/
theorem chooseRounds_enough (n : Nat) : ∀ s, (waitingSlots s).length < n → chooseRounds (n + 1) s = chooseRounds n s := by
  induction n with
  | zero => exact fun s few => by omega
  | succ n ih =>
    intro s few
    rw [chooseRounds.eq_def (n + 1 + 1), chooseRounds.eq_def (n + 1)]
    dsimp only
    split
    · split
      · rfl
      · split
        · rfl
        · rename_i k chosen
          split
          · have fewer := waitingSlots_complete (candidate_waiting chosen).1 .localTarget false
            exact ih _ (by omega)
          · rfl
    · rfl

/-- Settles O23: the disposal is one round, and the rounds that are left are enough. -/
theorem localTargetDisposal : Obligations.LocalTargetDisposal := by
  intro s q k may falls here
  refine ⟨complete k .localTarget false s, complete_completesAs .., ?_⟩
  have fewer := waitingSlots_complete (candidate_waiting falls.1).1 .localTarget false
  have all : (waitingSlots s).length ≤ 32 := Nat.le_trans (List.length_filter_le ..) (by simp)
  unfold choose
  rw [chooseRounds_falls may falls, if_pos ((localTarget_iff _ _).mpr here)]
  exact (chooseRounds_enough 32 _ (by omega)).symm

end Sys2Proof.Machine

/-! The ms tick and the expiries (R56, R67, R168), the Node Table's commands and results (R65 to R76), and a frame result handed on (R93). -/

namespace Sys2Proof.Machine

/-! ### Searches in a table -/

/-- The lowest entry that satisfies the test is the one that a search finds. -/
theorem tfind_first {α : Type} {n : Nat} {p : α → Bool} {v : Vector α n} {i : Fin n} (here : p (tget v i) = true)
    (first : ∀ j, j < i → p (tget v j) = false) : tfind p v = some i := by
  obtain ⟨j, found⟩ := Option.isSome_iff_exists.mp (tfind_isSome.mpr ⟨i, here⟩)
  rcases Nat.lt_trichotomy i j with above | same | below
  · have no := tfind_lowest found above
    rw [here] at no
    cases no
  · rw [found, Fin.ext same]
  · have no := tfind_some found
    rw [first j below] at no
    cases no

/-! ### Timers (R56 to R58, R168) -/

theorem deadlineDue_iff (k : Fin 32) (s : State) : deadlineDue k s = true ↔ timerOf s k = .running 0 := by
  simp [deadlineDue]

/-- A deadline that has run out, of a WAITING and of an ACTIVE request. -/
theorem deadlineExpires_waiting {k : Fin 32} {s : State} (due : timerOf s k = .running 0)
    (waiting : (slotOf s k).state = .waiting) : deadlineExpires k s = choose (complete k .expired false s) := by
  unfold deadlineExpires
  rw [if_pos ((deadlineDue_iff k s).mpr due), waiting]

theorem deadlineExpires_active {k : Fin 32} {s : State} (due : timerOf s k = .running 0)
    (active : (slotOf s k).state = .active) : deadlineExpires k s = setTimer k .lapsed s := by
  unfold deadlineExpires
  rw [if_pos ((deadlineDue_iff k s).mpr due), active]

/-- Where the stuck timer advances (R21). -/
theorem stuckAdvances_iff (s : State) : stuckAdvances s = true ↔ s.line.state ≠ .stuck ∧
    ((s.line.sbck = false ∧ ownSbck s = false) ∨ (s.line.sbdt = false ∧ ownSbdt s = false)) := by
  simp [stuckAdvances]

theorem stuckTick_eq (s : State) : stuckTick s =
    if s.line.state ≠ .stuck ∧ ((s.line.sbck = false ∧ ownSbck s = false) ∨ (s.line.sbdt = false ∧ ownSbdt s = false)) then
      { s.line with
        stuckMs := s.line.stuckMs + 1
        stuckDue := s.line.stuckDue || decide (s.cfg.stuckLimit.toNat ≤ s.line.stuckMs + 1) }
    else s.line := by
  unfold stuckTick
  simp only [stuckAdvances_iff]

/-- Settles O24: the expiry by the slot's state, the tick timer by timer. -/
theorem timersCountAndExpire : Obligations.TimersCountAndExpire := by
  refine ⟨fun k s due => ⟨fun waiting => ⟨complete k .expired false s, complete_completesAs .., ?_⟩, fun active => ?_⟩,
    fun s => ?_⟩
  · exact congrArg Host.Outcome.next (deadlineExpires_waiting due waiting)
  · exact congrArg Host.Outcome.next (deadlineExpires_active due active)
  · have timers : (fun t : DeadlineTimer => match t with | .running n => .running (n - 1) | other => other) =
        DeadlineTimer.tick := by
      funext t
      cases t <;> rfl
    refine congrArg Host.Outcome.next ?_
    unfold msTick
    rw [stuckTick_eq, ← timers]
    rfl

/-! ### NODE_WRITE, NODE_REMOVE and NODE_RESUME (R73, R75, R76) -/

theorem entryHolds_iff {a : Byte} {e : Option NodeEntry} : entryHolds a e = true ↔ ∃ n, e = some n ∧ n.address = a := by
  cases e with
  | none => simp [entryHolds]
  | some n => simp [entryHolds]

theorem entryHolds_false {a : Byte} {e : Option NodeEntry} (h : ∀ n, e = some n → n.address ≠ a) : entryHolds a e = false := by
  rw [← Bool.not_eq_true, entryHolds_iff]
  rintro ⟨n, used, address⟩
  exact h n used address

/-- No entry of this address: none is found. -/
theorem findNode_absent {a : Byte} {s : State} (h : ∀ j m, tget s.nodes j = some m → m.address ≠ a) : findNode a s = none :=
  tfind_eq_none.mpr fun j => entryHolds_false (h j)

/-- The lowest entry of this address is found. -/
theorem findNode_first {a : Byte} {s : State} {i : Fin 16} {n : NodeEntry} (used : tget s.nodes i = some n)
    (address : n.address = a) (first : ∀ j m, j < i → tget s.nodes j = some m → m.address ≠ a) : findNode a s = some i :=
  tfind_first (entryHolds_iff.mpr ⟨n, used, address⟩) fun j below => entryHolds_false fun m => first j m below

/-- The entry that the argument names, where no two have one address (R75, R76). -/
theorem nodeTarget_entry {s : State} (distinct : NodesDistinct s) {arg : BitVec 16} {i : Fin 16} {n : NodeEntry}
    (used : tget s.nodes i = some n) (number : n.address.toNat = arg.toNat) : nodeTarget arg s = some (i, n) := by
  have found : findNode n.address s = some i := by
    refine findNode_first used rfl fun j m below at_ same => ?_
    exact absurd (distinct.2 j i m n at_ used same) (Fin.ne_of_lt below)
  unfold nodeTarget
  rw [byteArg_of_toNat number.symm]
  simp only [found, used, Option.map_some]

theorem nodeTarget_absent {s : State} {arg : BitVec 16}
    (h : ∀ i n, tget s.nodes i = some n → n.address.toNat ≠ arg.toNat) : nodeTarget arg s = none := by
  unfold nodeTarget
  split
  · rfl
  · rename_i a number
    have absent : findNode a s = none := findNode_absent fun j m used same => h j m used (by rw [same, byteArg_some number])
    rw [absent]

/-- NODE_WRITE takes the lowest entry of its address. -/
theorem nodeWrite_found {s : State} {i : Fin 16} {n : NodeEntry} (opened : WriteOpen 0x004 s)
    (valid : ¬ (editNodeAddress s.edit = 0 ∨ editNodeAddress s.edit = 255))
    (found : findNode (editNodeAddress s.edit) s = some i) (used : tget s.nodes i = some n) :
    exec .nodeWrite s = .next
      { s with host := posted .ok (BitVec.ofNat 8 i.val) s.host, nodes := tset s.nodes i (some (editPolicy s.edit n)) } := by
  refine hostCommand_posted (body := nodeWriteCommand) (t := writeEntry s.edit i n s) opened fun p => ?_
  simp only [nodeWriteCommand, State.setHost_edit, State.setHost_nodes, findNode_setHost]
  simp only [valid, if_false, found, used]
  rfl

/-- NODE_WRITE takes an unused entry where none has its address. -/
theorem nodeWrite_fresh {s : State} (opened : WriteOpen 0x004 s)
    (valid : ¬ (editNodeAddress s.edit = 0 ∨ editNodeAddress s.edit = 255))
    (absent : findNode (editNodeAddress s.edit) s = none) : exec .nodeWrite s = .next
      (match unusedEntry s with
       | some i => { s with
           host := posted .ok (BitVec.ofNat 8 i.val) s.host
           nodes := tset s.nodes i (some (editPolicy s.edit (NodeEntry.fresh (editNodeAddress s.edit)))) }
       | none => { s with host := posted .tableFull 0 s.host }) := by
  cases unused : unusedEntry s with
  | some i =>
    refine hostCommand_posted (body := nodeWriteCommand)
      (t := writeEntry s.edit i (NodeEntry.fresh (editNodeAddress s.edit)) s) opened fun p => ?_
    simp only [nodeWriteCommand, State.setHost_edit, findNode_setHost, unusedEntry_setHost]
    simp only [valid, if_false, absent, unused]
    rfl
  | none =>
    refine hostCommand_posted (body := nodeWriteCommand) (t := s) opened fun p => ?_
    simp only [nodeWriteCommand, State.setHost_edit, findNode_setHost, unusedEntry_setHost]
    simp only [valid, if_false, absent, unused]
    rfl

/-- Settles O25: each command by what its search finds, and the expiry of a backoff. -/
theorem nodeCommandsAndBackoffExpiry : Obligations.NodeCommandsAndBackoffExpiry := by
  refine ⟨fun s opened => ⟨fun bad => ?bad, fun ne0 ne255 => ⟨fun i n used address first => ?found,
    fun i absent unused lowest => ?fresh, fun full => ?full⟩⟩,
    fun s arg opened distinct => ⟨fun absent => ?removeNone, fun i n used number => ⟨fun refs => ?inUse, fun free => ?removed⟩⟩,
    fun s arg opened distinct => ⟨fun absent => ?resumeNone, fun i n used number => ⟨fun available => ?same,
      fun other => ?resumed⟩⟩, fun s i n used backoff zero => ?expires⟩
  case bad =>
    refine hostCommand_posted (body := nodeWriteCommand) (t := s) opened fun p => ?_
    unfold nodeWriteCommand
    exact if_pos bad
  case found =>
    exact nodeWrite_found opened (not_or.mpr ⟨ne0, ne255⟩) (findNode_first used address first) used
  case fresh =>
    have found : unusedEntry s = some i :=
      tfind_first (by simp [unused]) fun j below => by
        rw [Option.isNone_eq_false_iff, Option.isSome_iff_ne_none]
        exact lowest j below
    rw [nodeWrite_fresh opened (not_or.mpr ⟨ne0, ne255⟩) (findNode_absent absent), found]
    rfl
  case full =>
    have absent (j : Fin 16) (m : NodeEntry) (used : tget s.nodes j = some m) : m.address ≠ editNodeAddress s.edit := by
      obtain ⟨other, at_, differs⟩ := full j
      rw [used, Option.some.injEq] at at_
      exact at_ ▸ differs
    have none_ : unusedEntry s = none := tfind_eq_none.mpr fun j => by
      obtain ⟨other, at_, -⟩ := full j
      simp [at_]
    rw [nodeWrite_fresh opened (not_or.mpr ⟨ne0, ne255⟩) (findNode_absent absent), none_]
  case removeNone =>
    refine hostCommand_posted (body := nodeRemoveCommand arg) (t := s) opened fun p => ?_
    simp only [nodeRemoveCommand, nodeTarget_setHost, nodeTarget_absent absent]
    rfl
  case inUse =>
    refine hostCommand_posted (body := nodeRemoveCommand arg) (t := s) opened fun p => ?_
    simp only [nodeRemoveCommand, nodeTarget_setHost, nodeTarget_entry distinct used number]
    rw [if_pos (Nat.pos_of_ne_zero refs)]
    rfl
  case removed =>
    refine hostCommand_posted (body := nodeRemoveCommand arg) (t := s.setNodes (tset s.nodes i none)) opened fun p => ?_
    simp only [nodeRemoveCommand, nodeTarget_setHost, nodeTarget_entry distinct used number]
    rw [if_neg (by omega)]
    rfl
  case resumeNone =>
    refine hostCommand_posted (body := nodeResumeCommand arg) (t := s) opened fun p => ?_
    simp only [nodeResumeCommand, nodeTarget_setHost, nodeTarget_absent absent]
    rfl
  case same =>
    refine hostCommand_posted (body := nodeResumeCommand arg) (t := s) opened fun p => ?_
    simp only [nodeResumeCommand, nodeTarget_setHost, nodeTarget_entry distinct used number]
    rw [if_pos available]
    rfl
  case resumed =>
    refine hostCommand_chooses (body := nodeResumeCommand arg) (u := s.setNodes (tset s.nodes i (some n.resumed))) opened
      fun p => ?_
    simp only [nodeResumeCommand, nodeTarget_setHost, nodeTarget_entry distinct used number]
    rw [if_neg other]
    rfl
  case expires =>
    have due : backoffDue (tget s.nodes i) = true := by simp [used, backoffDue, backoff, zero]
    refine congrArg Host.Outcome.next ?_
    unfold backoffExpires
    rw [if_pos due, used]
    rfl

/-! ### A frame result at its node (R65, R66, R68, R69) -/

/-- The entry of the address takes the result, and no other entry changes. -/
theorem tget_nodeResult {s : State} (distinct : NodesDistinct s) {a : Byte} {i : Fin 16} {n : NodeEntry}
    (used : tget s.nodes i = some n) (address : n.address = a) (r : FrameResult) (j : Fin 16) :
    tget (nodeResult r a s).nodes j = if j = i then some (n.takeResult r) else tget s.nodes j := by
  rw [nodeResult_nodes, tget_mapNodes]
  split
  · rename_i mine
    simp [mine, used, address]
  · rename_i other
    cases entry : tget s.nodes j with
    | none => rfl
    | some m =>
      have differs : m.address ≠ a := fun same => other (distinct.2 j i m n entry used (same.trans address.symm))
      simp [differs]

/-- What the result suspends, as R69 says it. -/
theorem suspendsNode_iff (r : FrameResult) (n : NodeEntry) : suspendsNode r n = true ↔
    (r = .noTarget ∨ r = .noResponse ∨ r = .badCheck ∨ r = .waitTimeout) ∧ n.failThreshold ≠ 0 ∧
      n.failThreshold.toNat ≤ min 15 (n.failCount + 1) := by
  have counted : countedResult r = true ↔ r = .noTarget ∨ r = .noResponse ∨ r = .badCheck ∨ r = .waitTimeout := by
    cases r <;> decide
  unfold suspendsNode
  rw [Bool.and_eq_true, Bool.and_eq_true, counted, and_assoc, decide_eq_true_iff, bne_iff_ne]
  rfl

/-- A counted result at an entry (R68, R69). -/
theorem takeResult_counted {r : FrameResult} (h : r = .noTarget ∨ r = .noResponse ∨ r = .badCheck ∨ r = .waitTimeout)
    (n : NodeEntry) : n.takeResult r =
      if suspendsNode r n then { n with failCount := raisedCount n, state := .suspended, backoffLeft := 0 }
      else { n with failCount := raisedCount n } := by
  rcases h with rfl | rfl | rfl | rfl <;> rfl

/-- A result that counts nothing against a node leaves the table as it is (R65). -/
theorem mapNodes_takeResult_none {r : FrameResult} (h : r = .busFault ∨ r = .busStuck ∨ r = .arbLost) (a : Byte) (s : State) :
    (mapNodes (· == a) (NodeEntry.takeResult r) s).nodes = s.nodes := by
  refine table_ext _ _ fun j => ?_
  rw [tget_mapNodes]
  have same (n : NodeEntry) : n.takeResult r = n := by rcases h with rfl | rfl | rfl <;> rfl
  simp [same]

/-- Settles O26: the entry by the result, and the event of a suspension. -/
theorem nodeTakesResult : Obligations.NodeTakesResult := by
  intro s r a i n distinct used address
  have read := tget_nodeResult distinct used address r
  have mine : tget (nodeResult r a s).nodes i = some (n.takeResult r) := (read i).trans (if_pos rfl)
  have found : resultSuspends r a s = suspendsNode r n := by
    have entry : nodeAt a s = some n := address ▸ nodeAt_of_entry distinct used
    simp only [resultSuspends, entry]
  refine ⟨fun j other => (read j).trans (if_neg other), ?_, ?_, fun suspends => ?_, fun counted keeps => ?_, fun quiet => ?_,
    fun suspends => ?_, fun keeps => ?_⟩
  · rintro (rfl | rfl) <;> exact mine
  · rintro rfl
    exact mine
  · rw [mine, takeResult_counted suspends.1, if_pos ((suspendsNode_iff r n).mpr suspends)]
    rfl
  · rw [mine, takeResult_counted counted, if_neg fun yes => keeps ((suspendsNode_iff r n).mp yes)]
    rfl
  · rw [nodeResult_nodes, mapNodes_takeResult_none quiet]
  · have sets : resultSuspends r a s = true := found.trans ((suspendsNode_iff r n).mpr suspends)
    unfold nodeResult
    dsimp only
    rw [if_pos sets]
    rfl
  · have sets : ¬ resultSuspends r a s = true := fun yes => keeps ((suspendsNode_iff r n).mp (found.symm.trans yes))
    unfold nodeResult
    dsimp only
    rw [if_neg sets]
    rfl

/-! ### A frame result handed on (R93, R94) -/

/-- The conditions of a Restart (R94). -/
theorem restartWanted_iff (x : Slot) (i : Nat) (s : State) : restartWanted x i s = true ↔
    i + 1 < x.chain.length ∧ x.cancelPending = false ∧ s.port.state ≠ .stopping := by
  simp [restartWanted, and_assoc]

/-- The slot that the result leaves: its chain and its CANCEL stand as they were. -/
theorem resultTaken_held (r : FrameResult) (k : Fin 32) (f : Frame) (s : State) :
    (slotOf (resultTaken r k f s) k).chain = (slotOf s k).chain ∧
      (slotOf (resultTaken r k f s) k).cancelPending = (slotOf s k).cancelPending := by
  unfold resultTaken
  rw [slotOf_of_store (nodeResult_store r f.dest _)]
  split
  · unfold acceptFrame
    rw [slotOf_setSlot_same]
    exact ⟨rfl, rfl⟩
  · exact ⟨rfl, rfl⟩

/-- The slot of an ACCEPTED frame (R89, R93). -/
theorem acceptFrame_eq (k : Fin 32) (i : Nat) (f : Frame) (s : State) : acceptFrame k i f s =
    { s with store := { s.store with
      slots := (tset s.store.slots k { slotOf s k with
        framesDone := (slotOf s k).framesDone + 1
        data := if f.kind = .read then copyRegion (slotOf s k).data (regionStart (slotOf s k).chain i) s.engine.capture f.length
          else (slotOf s k).data }) } } := by
  unfold acceptFrame
  cases f.kind <;> rfl

/-- The link decision (R94). -/
theorem reportResult_links {r : FrameResult} {s : State} {k : Fin 32} {f : Frame} (runs : Runs s k f)
    (links : r = .accepted ∧ s.engine.frameIndex + 1 < (slotOf s k).chain.length ∧ (slotOf s k).cancelPending = false ∧
      s.port.state ≠ .stopping) : reportResult r s = linkNext k (resultTaken r k f s) := by
  obtain ⟨chain, cancel⟩ := resultTaken_held r k f s
  have wanted : restartWanted (slotOf (resultTaken r k f s) k) s.engine.frameIndex (resultTaken r k f s) = true := by
    rw [restartWanted_iff, chain, cancel, (resultTaken_frame r k f s).port]
    exact links.2
  rw [reportResult_frame_run runs, if_pos ⟨links.1, wanted⟩]

/-- The attempt ends (R93, R103). -/
theorem reportResult_ended {r : FrameResult} {s : State} {k : Fin 32} {f : Frame} (runs : Runs s k f)
    (ends : ¬ (r = .accepted ∧ s.engine.frameIndex + 1 < (slotOf s k).chain.length ∧ (slotOf s k).cancelPending = false ∧
      s.port.state ≠ .stopping)) :
    reportResult r s = engineAfter r (endAttempt k r f.dest (resultSuspends r f.dest s) (resultTaken r k f s)) := by
  obtain ⟨chain, cancel⟩ := resultTaken_held r k f s
  rw [reportResult_frame_run runs, if_neg ?_]
  rintro ⟨accepted, wanted⟩
  rw [restartWanted_iff, chain, cancel, (resultTaken_frame r k f s).port] at wanted
  exact ends ⟨accepted, wanted⟩

/-- Settles O27: the link decision, and the end of the attempt result by result. -/
theorem resultIsHandedOn : Obligations.ResultIsHandedOn := by
  intro s k f r runs x i s1 s2 links s3 s4
  have first : s1 = if r = .accepted then acceptFrame k s.engine.frameIndex f s else s := by
    simp only [acceptFrame_eq]
    rfl
  have taken : s2 = resultTaken r k f s := by
    show nodeResult r f.dest s1 = _
    rw [first]
    rfl
  have engine : s2.engine = s.engine := taken ▸ resultTaken_engine r k f s
  refine ⟨fun g n linked next node => ?_, fun ends => ?_⟩
  · have limit : waitLimitFor s2 (slotOf s2 k).chain (s2.engine.frameIndex + 1) = n.waitLimitMs := by
      have chain : (slotOf s2 k).chain = x.chain := taken ▸ (resultTaken_held r k f s).1
      have frame : x.chain[s2.engine.frameIndex + 1]? = some g := by rw [engine]; exact next
      simp only [waitLimitFor, chain, frame, node, Option.map_some, Option.getD_some]
    rw [reportResult_links runs linked, ← taken]
    unfold linkNext
    dsimp only
    rw [limit, engine]
    rfl
  · have suspends : resultSuspends r f.dest s1 = resultSuspends r f.dest s := by
      rw [first]
      exact resultSuspends_acceptFrame r f.dest k f s
    have ended : endAttempt k r f.dest (resultSuspends r f.dest s) (resultTaken r k f s) = s4 := by
      show _ = if resultSuspends r f.dest s1 = true then flush f.dest s3 else s3
      rw [suspends, ← taken]
      unfold endAttempt
      rw [engine]
    have after : s4.engine = s.engine := by
      rw [← ended, endAttempt_engine, ← taken, engine]
    rw [reportResult_ended runs ends, ended]
    refine ⟨?_, ?_, ?_, ?_⟩
    · rintro (rfl | rfl) <;> rfl
    · rintro rfl
      simp only [engineAfter, after]
      rfl
    · rintro rfl
      simp only [engineAfter, after]
      rfl
    · rintro (rfl | rfl | rfl | rfl | rfl | rfl) <;> (simp only [engineAfter, after]; rfl)

end Sys2Proof.Machine

/-! The two lines as every block takes them: what a rise, a fall, a Start and a Stop are, when no choice can follow and no recovery runs (chapter 1; R5, R48). -/

namespace Sys2Proof.Machine

/-! ### What the engine leaves of the line and the recovery sequence -/

/-- The recovery sequence is as it was, and the line has not become QUIET. -/
structure Settled (s t : State) : Prop where
  recovery : t.port.recovery = s.port.recovery
  notQuiet : s.line.state ≠ .quiet → t.line.state ≠ .quiet

theorem Settled.refl (s : State) : Settled s s := ⟨rfl, id⟩

theorem Settled.trans {s t u : State} (a : Settled s t) (b : Settled t u) : Settled s u :=
  ⟨b.recovery.trans a.recovery, fun h => b.notQuiet (a.notQuiet h)⟩

theorem RequestFrame.settled {s t : State} (h : RequestFrame s t) : Settled s t :=
  ⟨by rw [h.port], fun q => by rw [h.line]; exact q⟩

theorem ResponderFrame.settled {s t : State} (h : ResponderFrame s t) : Settled s t :=
  ⟨by rw [h.port], fun q => by rw [h.line]; exact q⟩

theorem engineToIdle_settled (s : State) : Settled s (engineToIdle s) :=
  ⟨(engineToIdle_port_rest s).1, engineToIdle_not_quiet⟩

theorem reportResult_recovery (r : FrameResult) (s : State) : (reportResult r s).port.recovery = s.port.recovery := by
  rcases reportResult_ends r s with ⟨k, f, u, -, -, -, port, eq⟩ | ⟨u, -, port, eq⟩
  · rw [eq, ← port]
    rfl
  · have after : (engineAfter r u).port.recovery = u.port.recovery := by
      cases r with
      | arbLost => exact (engineToIdle_port_rest u).1
      | busStuck => exact (engineToIdle_port_rest u).1
      | _ => rfl
    rw [eq, after, port]

theorem reportResult_settled (r : FrameResult) (s : State) : Settled s (reportResult r s) :=
  ⟨reportResult_recovery r s, reportResult_not_quiet r⟩

theorem engineTakeBit_settled (b : Bool) (s : State) : Settled s (engineTakeBit b s) := by
  unfold engineTakeBit
  split
  · exact reportResult_settled _ s
  · split
    · exact reportResult_settled _ s
    · exact ((setEngine_frame s _).trans (afterBit_frame b _)).settled

theorem engineRise_settled (b : Bool) (s : State) : Settled s (engineRise b s) := by
  have ready (e : Engine) : Settled s (s.setEngine e) := (setEngine_frame s e).settled
  unfold engineRise
  dsimp only
  split
  · split
    · exact (ready _).trans (setEngine_frame _ _).settled
    · split
      · exact (ready _).trans (setEngine_frame _ _).settled
      · exact (ready _).trans (reportResult_settled _ _)
    · exact (ready _).trans (engineTakeBit_settled b _)
  · exact ready _
  · exact .refl s

theorem engineCondition_settled (s : State) : Settled s (engineCondition s) := by
  unfold engineCondition
  split
  · exact reportResult_settled _ s
  · exact .refl s

theorem engineStopSeen_settled (s : State) : Settled s (engineStopSeen s) := by
  unfold engineStopSeen
  split
  · exact engineToIdle_settled s
  · exact engineCondition_settled s

/-! ### A rise of SBCK (R5) -/

/-- A rise with no choice and no recovery near: the engine takes it, then the Responder. -/
theorem clockRises_settled {s : State} {b : Bool} (recovery : s.port.recovery = .none) (notQuiet : s.line.state ≠ .quiet) :
    clockRises b s = responderRise b (engineRise b (sbckHigh s)) := by
  have high : Settled s (sbckHigh s) := ⟨rfl, id⟩
  have rises := (high.trans (engineRise_settled b _)).trans (responderRise_frame b (engineRise b (sbckHigh s))).settled
  unfold clockRises
  rw [recoveryRise_none b (rises.recovery.trans recovery), choose_not_quiet (rises.notQuiet notQuiet)]

theorem riseEvent_comes {s : State} {b : Bool} (h : RiseComes s b) :
    riseEvent s = responderRise b (engineRise b (sbckHigh s)) := by
  obtain ⟨-, -, -, -, level, recovery, notQuiet⟩ := id h
  unfold riseEvent
  rw [if_pos (canRise_of h), level, clockRises_settled recovery notQuiet]

theorem exec_rise {s : State} {b : Bool} (h : RiseComes s b) :
    exec (.sbckRise true) s = .next (responderRise b (engineRise b (sbckHigh s))) :=
  congrArg Host.Outcome.next (riseEvent_comes h)

/-- A rise in a named case, read once the Responder's level is settled. -/
theorem riseCase_comes {s : State} {b : Bool} {p : State → Bool} (h : RiseComes (responderCountEnd s) b)
    (here : p (responderCountEnd s) = true) :
    riseCase p s = responderRise b (engineRise b (sbckHigh (responderCountEnd s))) := by
  unfold riseCase
  rw [canRise_of h, here]
  exact riseEvent_comes h

/-- A rise at an engine that waits inside a frame: it takes the bit, then the Responder does. -/
theorem exec_rise_bit {s : State} {b : Bool} (h : RiseComes s b) (waits : s.engine.phase = .waiting)
    (notStopping : s.engine.st ≠ .stopping) (notLinking : s.engine.st ≠ .linking) :
    exec (.sbckRise true) s = .next (responderRise b (engineTakeBit b (risen s))) := by
  rw [exec_rise h, engineRise_bit b waits notStopping notLinking]

/-- A rise at an engine without a clock: the Responder takes it. -/
theorem exec_rise_follower {s : State} {b : Bool} (h : RiseComes s b) (none : s.engine.phase = .none) :
    exec (.sbckRise true) s = .next (responderRise b (sbckHigh s)) := by
  rw [exec_rise h, engineRise_none b none]

/-! ### A fall of SBCK (R4) -/

theorem fallEvent_high {s : State} (high : s.line.sbck = true) : fallEvent s = responderFall (engineFall (sbckLow s)) :=
  if_pos high

theorem exec_fall {s : State} (high : s.line.sbck = true) :
    exec .sbckFall s = .next (responderFall (engineFall (sbckLow s))) :=
  congrArg Host.Outcome.next (fallEvent_high high)

/-- An engine that produces no clock takes no fall. -/
theorem engineFall_idle {s : State} (h : s.engine.phase = .none ∨ s.engine.phase = .startDue) : engineFall s = s := by
  rcases h with h | h <;> simp [engineFall, h]

/-! ### A Start and a Stop (R5, R84, R97) -/

theorem bothHigh_iff (s : State) : bothHigh s = true ↔ s.line.sbck = true ∧ s.line.sbdt = true := by
  simp [bothHigh]

theorem startEvent_high {s : State} (sbck : s.line.sbck = true) (sbdt : s.line.sbdt = true) :
    startEvent s = responderStart (engineCondition (sbdtLow s)) := if_pos ((bothHigh_iff s).mpr ⟨sbck, sbdt⟩)

/-- Where a condition is a fault to the engine (R84, R95). -/
theorem conditionFaults_iff (s : State) : conditionFaults s = true ↔
    s.engine.phase = .high ∨ (s.engine.phase = .condFirst ∧ s.engine.st = .linking) := by
  unfold conditionFaults
  cases s.engine.phase <;> simp

theorem engineCondition_faults {s : State} (h : s.engine.phase = .high ∨ (s.engine.phase = .condFirst ∧ s.engine.st = .linking)) :
    engineCondition s = reportResult .busFault s := if_pos ((conditionFaults_iff s).mpr h)

theorem engineCondition_none {s : State}
    (h : ¬ (s.engine.phase = .high ∨ (s.engine.phase = .condFirst ∧ s.engine.st = .linking))) : engineCondition s = s :=
  if_neg fun faults => h ((conditionFaults_iff s).mp faults)

theorem recoveryStop_none {s : State} (h : s.port.recovery = .none) : recoveryStop s = s := by
  unfold recoveryStop
  rw [if_neg (by simp [h])]

/-- A Stop with no recovery near, before the choice that may follow it. -/
theorem stopEvent_rises {s : State} (sbck : s.line.sbck = true) (sbdt : s.line.sbdt = false) (released : ownSbdt s = false)
    (recovery : s.port.recovery = .none) : stopEvent s = choose (responderClose (engineStopSeen (sbdtHigh s))) := by
  have high : Settled s (sbdtHigh s) := ⟨rfl, id⟩
  have closes := (high.trans (engineStopSeen_settled _)).trans (responderClose_frame (engineStopSeen (sbdtHigh s))).settled
  unfold stopEvent
  rw [if_pos (by simp [sbck, sbdt, released])]
  unfold stopSeen
  rw [recoveryStop_none (closes.recovery.trans recovery)]

/-- A Stop where no choice is near. -/
theorem stopEvent_settled {s : State} (sbck : s.line.sbck = true) (sbdt : s.line.sbdt = false) (released : ownSbdt s = false)
    (recovery : s.port.recovery = .none) (notQuiet : s.line.state ≠ .quiet) :
    stopEvent s = responderClose (engineStopSeen (sbdtHigh s)) := by
  have high : Settled s (sbdtHigh s) := ⟨rfl, id⟩
  have closes := (high.trans (engineStopSeen_settled _)).trans (responderClose_frame (engineStopSeen (sbdtHigh s))).settled
  rw [stopEvent_rises sbck sbdt released recovery, choose_not_quiet (closes.notQuiet notQuiet)]

/-! ### The frame that the engine runs (R78) -/

theorem Runs.frame {s : State} {k : Fin 32} {f : Frame} (h : Runs s k f) :
    heldSlot s = some (k, slotOf s k) ∧ currentFrame s = some f := by
  obtain ⟨held, frame⟩ := h
  have slot : heldSlot s = some (k, slotOf s k) := by
    unfold heldSlot
    rw [held]
    rfl
  refine ⟨slot, ?_⟩
  unfold currentFrame
  rw [slot]
  exact frame

theorem Runs.kind {s : State} {k : Fin 32} {f : Frame} (h : Runs s k f) : engineKind s = some f.kind := by
  unfold engineKind
  rw [h.frame.2]
  rfl

theorem Runs.len {s : State} {k : Fin 32} {f : Frame} (h : Runs s k f) : engineLen s = f.length := by
  unfold engineLen
  rw [h.frame.2]
  rfl

theorem engineBits_within {s : State} {n : Nat} (h : s.engine.pos = .within n) : engineBits s = n := by
  unfold engineBits
  rw [h]

/-- A mismatch and a lost arbitration (R16, R17, R81). -/
theorem mismatch_iff (e : Engine) (b : Bool) : mismatch e b = true ↔ e.sent = some (!b) := by
  simp [mismatch]

theorem losesArbitration_iff (e : Engine) (b : Bool) :
    losesArbitration e b = true ↔ e.st = .arbitrating ∧ e.sent = some true ∧ b = false := by
  simp [losesArbitration, and_assoc]

/-- The engine's record of a bit of a frame of this kind and length (R2, R5, R14, R88). -/
def bitRecord (e : Engine) (kind : Kind) (body n high : Nat) (b : Bool) : Engine :=
  { e with
    pos := .within (n + 1)
    phase := .high
    left := high
    sent := none
    crc := if crcCovers (n + 1) body then crcStep e.crc b else e.crc
    capture := if kind = .read ∧ 37 ≤ n ∧ n < 37 + body then bufferShiftIn e.capture ((n - 37) / 8) b else e.capture
    check := if kind = .read ∧ 37 + body ≤ n ∧ n < 45 + body then shiftIn e.check b else e.check }

theorem takenBit_eq {s : State} {k : Fin 32} {f : Frame} {n : Nat} (runs : Runs s k f) (pos : s.engine.pos = .within n)
    (b : Bool) : takenBit s b = bitRecord s.engine f.kind (8 * f.length) n (highLen s) b := by
  have read : (engineKind s == some .read) = decide (f.kind = .read) := by
    rw [runs.kind]
    cases f.kind <;> rfl
  have body (p : Nat) : (38 ≤ n + 1 ∧ n + 1 ≤ 37 + p) ↔ (37 ≤ n ∧ n < 37 + p) := by omega
  have check (p : Nat) : (38 + p ≤ n + 1 ∧ n + 1 ≤ 45 + p) ↔ (37 + p ≤ n ∧ n < 45 + p) := by omega
  unfold takenBit bitRecord
  simp only [engineBits_within pos, runs.len, read, body, check, Bool.and_eq_true, decide_eq_true_eq,
    show n + 1 - 38 = n - 37 by omega]

/-- A rise at an engine that runs a frame, without a mismatch: the bit is recorded, and what follows it. -/
theorem engineTakeBit_runs {s : State} {k : Fin 32} {f : Frame} {n : Nat} {b : Bool} (runs : Runs s k f)
    (pos : s.engine.pos = .within n) (sent : s.engine.sent = none ∨ s.engine.sent = some b) :
    engineTakeBit b s = afterBit b (s.setEngine (bitRecord s.engine f.kind (8 * f.length) n (highLen s) b)) := by
  rw [engineTakeBit_taken sent, takenBit_eq runs pos]

/-! ### The engine at a fall -/

theorem engineFall_high {s : State} (h : s.engine.phase = .high) : engineFall s = pullClock (bitEnds s) := by
  unfold engineFall
  rw [h]

theorem bitEnds_none {s : State} (h : resultAtEnd s = none) : bitEnds s = s := by
  unfold bitEnds
  rw [h]

theorem bitEnds_some {s : State} {r : FrameResult} (h : resultAtEnd s = some r) :
    bitEnds s = reportResult r (s.setEngine { s.engine with pos := .boundary }) := by
  unfold bitEnds
  rw [h]

/-- Before the last bit of a frame no result is due (R90). -/
theorem resultAtEnd_state {s : State} (claim : s.engine.st ≠ .claim) (response : s.engine.st ≠ .response) :
    resultAtEnd s = none := by
  unfold resultAtEnd
  cases st : s.engine.st with
  | claim => exact absurd st claim
  | response => exact absurd st response
  | _ => simp only [st]

/-- The result of a frame that ends at bit 37 (R86). -/
def claimResult : ClaimCode → FrameResult
  | .proceed => .accepted
  | .busy => .busy
  | .refuse => .refused
  | .none => .noTarget

theorem resultAtEnd_claim {s : State} (st : s.engine.st = .claim) {n : Nat} (pos : s.engine.pos = .within n) :
    resultAtEnd s = if n = 37 then s.engine.claim.map claimResult else none := by
  unfold resultAtEnd
  simp only [st, engineBits_within pos]
  split
  · cases claim : s.engine.claim with
    | none => rfl
    | some c => cases c <;> rfl
  · rfl

theorem resultAtEnd_response {s : State} {k : Fin 32} {f : Frame} (runs : Runs s k f) (st : s.engine.st = .response)
    {n : Nat} (pos : s.engine.pos = .within n) : resultAtEnd s =
      if n = 46 + 8 * f.length then
        some (if f.kind = .read then (if s.engine.verified then .accepted else .badCheck)
          else (if s.engine.respLow then .accepted else .noResponse))
      else none := by
  unfold resultAtEnd
  simp only [st, engineBits_within pos, engineLast, runs.len, runs.kind, Option.some.injEq]
  split
  · split <;> split <;> rfl
  · rfl

end Sys2Proof.Machine

/-! The Controller Engine at a rise and at a fall of SBCK (chapter 5): bits taken, arbitration, the claim slot, the response slot, bus faults and the wait timeout. -/

namespace Sys2Proof.Machine

/-! ### The record of a bit, by its place in the frame (R13, R14, R88) -/

theorem crcCovers_iff (n body : Nat) : crcCovers (n + 1) body = true ↔ n < 35 ∨ (37 ≤ n ∧ n < 37 + body) := by
  simp only [crcCovers, Bool.or_eq_true, decide_eq_true_eq]
  omega

section
variable {e : Engine} {kind : Kind} {body n high : Nat} {b : Bool}

theorem bitRecord_header (place : n < 35) : bitRecord e kind body n high b =
    { e with pos := .within (n + 1), phase := .high, left := high, sent := none, crc := crcStep e.crc b } := by
  unfold bitRecord
  rw [if_pos ((crcCovers_iff n body).mpr (.inl place)), if_neg fun h => absurd h.2.1 (by omega),
    if_neg fun h => absurd h.2.1 (by omega)]

theorem bitRecord_claim (place : n = 35 ∨ n = 36) : bitRecord e kind body n high b =
    { e with pos := .within (n + 1), phase := .high, left := high, sent := none } := by
  unfold bitRecord
  rw [if_neg (by rw [crcCovers_iff]; omega), if_neg fun h => absurd h.2.1 (by omega), if_neg fun h => absurd h.2.1 (by omega)]

theorem bitRecord_readBody (read : kind = .read) (from_ : 37 ≤ n) (below : n < 37 + body) : bitRecord e kind body n high b =
    { e with
      pos := .within (n + 1), phase := .high, left := high, sent := none, crc := crcStep e.crc b
      capture := bufferShiftIn e.capture ((n - 37) / 8) b } := by
  unfold bitRecord
  rw [if_pos ((crcCovers_iff n body).mpr (.inr ⟨from_, below⟩)), if_pos ⟨read, from_, below⟩,
    if_neg fun h => absurd h.2.1 (by omega)]

theorem bitRecord_writeBody (write : kind = .write) (from_ : 37 ≤ n) (below : n < 37 + body) :
    bitRecord e kind body n high b =
      { e with pos := .within (n + 1), phase := .high, left := high, sent := none, crc := crcStep e.crc b } := by
  unfold bitRecord
  rw [if_pos ((crcCovers_iff n body).mpr (.inr ⟨from_, below⟩)), if_neg fun h => absurd h.1 (by simp [write]),
    if_neg fun h => absurd h.1 (by simp [write])]

theorem bitRecord_readCheck (read : kind = .read) (from_ : 37 + body ≤ n) (below : n < 45 + body) :
    bitRecord e kind body n high b =
      { e with pos := .within (n + 1), phase := .high, left := high, sent := none, check := shiftIn e.check b } := by
  unfold bitRecord
  rw [if_neg (by rw [crcCovers_iff]; omega), if_neg fun h => absurd h.2.2 (by omega), if_pos ⟨read, from_, below⟩]

theorem bitRecord_writeCheck (write : kind = .write) (from_ : 37 + body ≤ n) :
    bitRecord e kind body n high b = { e with pos := .within (n + 1), phase := .high, left := high, sent := none } := by
  unfold bitRecord
  rw [if_neg (by rw [crcCovers_iff]; omega), if_neg fun h => absurd h.1 (by simp [write]),
    if_neg fun h => absurd h.1 (by simp [write])]

theorem bitRecord_response (last : n = 45 + body) :
    bitRecord e kind body n high b = { e with pos := .within (n + 1), phase := .high, left := high, sent := none } := by
  unfold bitRecord
  rw [if_neg (by rw [crcCovers_iff]; omega), if_neg fun h => absurd h.2.2 (by omega),
    if_neg fun h => absurd h.2.2 (by omega)]

end

/-- A header bit is recorded alike for every frame. -/
theorem takenBit_header {s : State} {n : Nat} (pos : s.engine.pos = .within n) (place : n < 35) (b : Bool) :
    takenBit s b = { s.engine with
      pos := .within (n + 1), phase := .high, left := highLen s, sent := none, crc := crcStep s.engine.crc b } := by
  unfold takenBit
  simp only [engineBits_within pos]
  rw [if_pos ((crcCovers_iff n _).mpr (.inl place)), if_neg (by simp; omega), if_neg (by simp; omega)]

/-! ### What follows a bit, by the engine's state (R82, R86 to R88) -/

section
variable {s : State} {b : Bool} {p : Nat}

theorem afterBit_arbitrating (st : s.engine.st = .arbitrating) (pos : s.engine.pos = .within p) :
    afterBit b s = if p = 20 then arbitrationWon s else s := by
  simp only [afterBit, st, engineBits_within pos]

theorem afterBit_header (st : s.engine.st = .header) (pos : s.engine.pos = .within p) :
    afterBit b s = if p = 35 then s.setEngine { s.engine with st := .claim } else s := by
  simp only [afterBit, st, engineBits_within pos]

theorem afterBit_claim (st : s.engine.st = .claim) (pos : s.engine.pos = .within p) : afterBit b s =
    if p = 36 then s.setEngine { s.engine with claimFirst := b }
    else if p = 37 then claimAtEngine (claimOfBits s.engine.claimFirst b) s
    else s := by
  simp only [afterBit, st, engineBits_within pos]

theorem afterBit_body {k : Fin 32} {f : Frame} (runs : Runs s k f) (st : s.engine.st = .body)
    (pos : s.engine.pos = .within p) : afterBit b s =
      if p = 37 + 8 * f.length then s.setEngine { s.engine with st := .check } else s := by
  simp only [afterBit, st, engineBits_within pos, runs.len]

theorem afterBit_check {k : Fin 32} {f : Frame} (runs : Runs s k f) (st : s.engine.st = .check)
    (pos : s.engine.pos = .within p) : afterBit b s =
      if p = 45 + 8 * f.length then
        s.setEngine { s.engine with st := .response, verified := decide (f.kind = .read ∧ s.engine.check = s.engine.crc) }
      else s := by
  have verified : (engineKind s == some .read && s.engine.check == s.engine.crc) =
      decide (f.kind = .read ∧ s.engine.check = s.engine.crc) := by
    rw [runs.kind, Bool.eq_iff_iff]
    simp
  simp only [afterBit, st, engineBits_within pos, runs.len, verified]

theorem afterBit_response (st : s.engine.st = .response) :
    afterBit b s = s.setEngine { s.engine with respLow := !b } := by
  simp only [afterBit, st]

/-- The claim code at bit 37 (R86). -/
theorem claimAtEngine_goes {k : Fin 32} {f : Frame} (runs : Runs s k f) {c : ClaimCode} (proceeds : c = .proceed)
    (body : f.kind ≠ .probe) : claimAtEngine c s = s.setEngine { s.engine with
      st := .body
      claim := some c
      check := 0
      verified := false
      capture := if f.kind = .read then Vector.replicate 32 0 else s.engine.capture } := by
  subst proceeds
  unfold claimAtEngine
  simp only [runs.kind, Option.some.injEq]
  cases kind : f.kind with
  | probe => exact absurd kind body
  | _ => rfl

theorem claimAtEngine_ends {k : Fin 32} {f : Frame} (runs : Runs s k f) {c : ClaimCode}
    (ends : c ≠ .proceed ∨ f.kind = .probe) : claimAtEngine c s = s.setEngine { s.engine with claim := some c } := by
  have stops : frameGoesOn (engineKind s) c = false := by
    rw [runs.kind]
    rcases ends with other | probe
    · cases c with
      | proceed => exact absurd rfl other
      | _ => cases f.kind <;> rfl
    · rw [probe]
      cases c <;> rfl
  unfold claimAtEngine
  dsimp only
  rw [stops, if_neg Bool.false_ne_true]

/-- Arbitration is won (R82). -/
theorem arbitrationWon_held {k : Fin 32} (held : s.engine.held = some k) : arbitrationWon s =
    { s with
      engine := { s.engine with st := .header, arb := .won }
      store := { s.store with
        slots := tset s.store.slots k { slotOf s k with attempts := (slotOf s k).attempts + 1 } } } := by
  unfold arbitrationWon
  simp only [held]
  rfl

end

/-! ### A bit taken at a rise -/

/-- The states in which the engine takes a bit. -/
def EngineState.takesBit (st : EngineState) : Prop := st ≠ .stopping ∧ st ≠ .linking

/-- A rise at an engine that runs a frame, without a mismatch: the bit, what follows it, and the Responder. -/
theorem exec_rise_runs {s : State} {b : Bool} {k : Fin 32} {f : Frame} {n : Nat} (h : RiseComes s b)
    (waits : s.engine.phase = .waiting) (takes : s.engine.st.takesBit) (sent : s.engine.sent = none ∨ s.engine.sent = some b)
    (runs : Runs s k f) (pos : s.engine.pos = .within n) :
    exec (.sbckRise true) s = .next (responderRise b (afterBit b
      ((risen s).setEngine (bitRecord (risen s).engine f.kind (8 * f.length) n (highLen s) b)))) := by
  rw [exec_rise_bit h waits takes.1 takes.2, engineTakeBit_runs (s := risen s) runs pos sent]
  rfl

theorem EngineState.takesBit_of {st st' : EngineState} (is : st = st') (stopping : st' ≠ .stopping) (linking : st' ≠ .linking) :
    st.takesBit := by
  subst is
  exact ⟨stopping, linking⟩

/-- Bits 1 to 35 need no frame: bit 20 wins arbitration, bit 35 opens the claim slot. -/
theorem engineTakeBit_header {s : State} {b : Bool} {n : Nat} (pos : s.engine.pos = .within n) (place : n < 35)
    (sent : s.engine.sent = none ∨ s.engine.sent = some b) :
    engineTakeBit b s = afterBit b (s.setEngine { s.engine with
      pos := .within (n + 1), phase := .high, left := highLen s, sent := none, crc := crcStep s.engine.crc b }) := by
  rw [engineTakeBit_taken sent, takenBit_header pos place]

/-! ### Arbitration lost (R81, R104) -/

/-- A result that is no node's leaves the table and its events (R65). -/
theorem nodeResult_arbLost (a : Byte) (s : State) : nodeResult .arbLost a s = s := by
  have no : resultSuspends .arbLost a s = false := by
    unfold resultSuspends
    split <;> rfl
  unfold nodeResult
  dsimp only
  rw [no, if_neg Bool.false_ne_true]
  have same := mapNodes_takeResult_none (r := .arbLost) (.inr (.inr rfl)) a s
  calc mapNodes (· == a) (NodeEntry.takeResult .arbLost) s
    _ = s.setNodes (mapNodes (· == a) (NodeEntry.takeResult .arbLost) s).nodes := rfl
    _ = s := by rw [same]; rfl

theorem reportResult_arbLost {s : State} {k : Fin 32} {f : Frame} (runs : Runs s k f) :
    reportResult .arbLost s = engineToIdle (attemptEnd k .arbLost false s) := by
  have taken : resultTaken .arbLost k f s = s := nodeResult_arbLost f.dest s
  have no : resultSuspends .arbLost f.dest s = false := by
    unfold resultSuspends
    split <;> rfl
  rw [reportResult_ended runs (fun links => by cases links.1), taken, no]
  rfl

/-- Settles O28: the Start or the loss at the first period, and the two ways in which bit 20's side of arbitration ends. -/
theorem startAndArbitration : Obligations.StartAndArbitration := by
  refine ⟨fun s st phase => ⟨fun sbck sbdt quiet => ⟨?start, fun off => ?off, fun listening between => ?listening⟩,
    fun k f notQuiet runs => ?lostAtOnce⟩, fun s k f comes waits st sent runs => ?lost, fun s k b comes waits st pos sent held => ?won⟩
  case start =>
    refine congrArg Host.Outcome.next ?_
    unfold engineStartEvent
    rw [if_pos ⟨st, phase⟩, if_pos ⟨(bothHigh_iff s).mpr ⟨sbck, sbdt⟩, quiet⟩]
    unfold engineStartOn sbdtLow Line.lowRead
    simp only [State.setEngine_line, quiet, if_true]
    rfl
  case off => exact if_pos off
  case listening =>
    unfold responderStart
    rw [if_neg (by simp [listening])]
    unfold breakFrame
    rw [if_neg (by simp [midFrame, between])]
    rfl
  case lostAtOnce =>
    refine congrArg Host.Outcome.next ?_
    unfold engineStartEvent
    rw [if_pos ⟨st, phase⟩, if_neg fun both => notQuiet both.2, choose_not_quiet (reportResult_not_quiet _ notQuiet),
      reportResult_arbLost runs]
  case lost =>
    have loses : losesArbitration (risen (responderCountEnd s)).engine false = true := (losesArbitration_iff _ _).mpr ⟨st, sent, rfl⟩
    have level : (responderCountEnd s).line.sbdt = false := comes.2.2.2.2.1
    refine congrArg Host.Outcome.next ?_
    have losing : lossAtRise (responderCountEnd s) = true := by
      simp [lossAtRise, engineWaits, waits, level, losesArbitration, st, sent]
    rw [riseCase_comes comes losing,
      engineRise_bit false waits (by simp [st]) (by simp [st])]
    unfold engineTakeBit
    rw [if_pos loses, reportResult_arbLost (s := risen _) runs]
  case won =>
    have level : (responderCountEnd s).line.sbdt = b := comes.2.2.2.2.1
    have wins : winAtRise (responderCountEnd s) = true := by
      simp [winAtRise, engineWaits, waits, st, engineBits_within pos, level, mismatch, sent]
    refine congrArg Host.Outcome.next ?_
    show riseCase winAtRise s = _
    rw [riseCase_comes comes wins, engineRise_bit b waits (by simp [st]) (by simp [st]),
      engineTakeBit_header (s := risen _) pos (by omega) (.inr sent), afterBit_arbitrating (p := 20) ?_ rfl, if_pos rfl,
      arbitrationWon_held (k := k) ?_]
    · rfl
    · exact held
    · exact st

/-! ### The Responder's count, where SBCK is still low (R2, R132) -/

/-- A result that does not send the engine to IDLE leaves the lines. -/
theorem reportResult_line {r : FrameResult} (lost : r ≠ .arbLost) (stuck : r ≠ .busStuck) (s : State) :
    (reportResult r s).line = s.line := by
  have after (t : State) : (engineAfter r t).line = t.line := by
    cases r with
    | arbLost => exact absurd rfl lost
    | busStuck => exact absurd rfl stuck
    | _ => rfl
  by_cases run : ∃ k f, Runs s k f
  · obtain ⟨k, f, runs⟩ := run
    have taken := (resultTaken_frame r k f s).line
    rw [reportResult_frame_run runs]
    split
    · rw [(linkNext_frame _ _).line, taken]
    · rw [after, (endAttempt_frame _ _ _ _ _).line, taken]
  · rw [reportResult_no_frame fun k f runs => run ⟨k, f, runs⟩, after]

theorem engineCondition_line (s : State) : (engineCondition s).line = s.line := by
  unfold engineCondition
  split
  · exact reportResult_line (by simp) (by simp) s
  · rfl

theorem startSeen_sbck (s : State) : (startSeen s).line.sbck = s.line.sbck := by
  unfold startSeen
  rw [(responderStart_frame _).line, engineCondition_line]
  rfl

/-- The level that the Responder sets keeps everything but its own side. -/
theorem levelSet_frame (s : State) : ResponderFrame s (levelSet s) :=
  (commitNow_frame s).trans (setResponder_frame _ _)

/-- The Responder's count to its change of SBDT: the level, and where it pulls SBDT low what that is. -/
theorem responderSets_counting {s : State} {d : Nat} (counting : s.responder.delay = some d) :
    responderSets s = if s.responder.want then responderPulls (levelSet s) else levelSet s := by
  unfold responderSets
  rw [counting]
  rfl

theorem responderSets_sbck (s : State) : (responderSets s).line.sbck = s.line.sbck := by
  cases counting : s.responder.delay with
  | none => simp [responderSets, counting]
  | some d =>
    have level := (levelSet_frame s).line
    rw [responderSets_counting counting]
    split
    · unfold responderPulls
      split
      · rw [level]
      · split
        · rw [startSeen_sbck, level]
        · rw [← level]
          rfl
    · rw [level]

theorem responderReleases_frame (s : State) : ResponderFrame s (responderReleases s) := by
  unfold responderReleases
  split
  · exact .refl s
  · exact setResponder_frame s _

/-- The Responder's count moves SBDT alone. -/
theorem responderCountEnd_sbck (s : State) : (responderCountEnd s).line.sbck = s.line.sbck := by
  unfold responderCountEnd
  rw [(responderReleases_frame _).line, responderSets_sbck]

/-- While SBCK is low the Responder's count is no condition, and the engine takes no part in it. -/
theorem responderCountEnd_low {s : State} (low : s.line.sbck = false) :
    (responderCountEnd s).engine = s.engine ∧ (responderCountEnd s).store = s.store := by
  have level := levelSet_frame s
  have sets : (responderSets s).engine = s.engine ∧ (responderSets s).store = s.store := by
    cases counting : s.responder.delay with
    | none => simp [responderSets, counting]
    | some d =>
      have lowLevel : (levelSet s).line.sbck = false := by rw [level.line]; exact low
      rw [responderSets_counting counting]
      split
      · unfold responderPulls
        rw [if_neg (by simp [lowLevel] : ¬ (levelSet s).line.sbck = true)]
        split
        · exact ⟨level.engine, level.store⟩
        · exact ⟨level.engine, level.store⟩
      · exact ⟨level.engine, level.store⟩
  have releases := responderReleases_frame (responderSets s)
  exact ⟨releases.engine.trans sets.1, releases.store.trans sets.2⟩

/-! ### The end of a frame's last high phase (R90) -/

theorem sbckLow_notQuiet {s : State} (h : s.line.state ≠ .quiet) :
    sbckLow s = { s with line := { s.line with sbck := false, quietTb := 0, quietPart := 0 } } := by
  unfold sbckLow Line.lowRead
  rw [if_neg h]
  rfl

/-- The high phase of a last bit ends: the result is reported, and the engine pulls SBCK low. -/
theorem endCase_reports {v : State} {st : EngineState} {n : Nat} {r : FrameResult} (runs : bitRuns st n v = true)
    (high : v.line.sbck = true) (notQuiet : v.line.state ≠ .quiet) (result : resultAtEnd (sbckLow v) = some r) :
    endCase st n v = responderFall (pullClock (reportResult r
      { v with
        line := { v.line with sbck := false, quietTb := 0, quietPart := 0 }
        engine := { v.engine with pos := .boundary } })) := by
  have phase : (sbckLow v).engine.phase = .high := by
    simp only [bitRuns, Bool.and_eq_true, beq_iff_eq] at runs
    exact runs.1.1
  unfold endCase
  rw [if_pos runs, fallEvent_high high, engineFall_high phase, bitEnds_some result, sbckLow_notQuiet notQuiet]
  rfl

/-- The Responder leaves the engine and the lines at a rise. -/
theorem responderRise_rest (b : Bool) (s : State) :
    (responderRise b s).engine = s.engine ∧ (responderRise b s).line = s.line ∧ (responderRise b s).store = s.store := by
  have frame := responderRise_frame b s
  exact ⟨frame.engine, frame.line, frame.store⟩

/-- The frame that the engine runs depends on its slot and its place in the chain alone. -/
theorem Runs.of_same {s t : State} {k : Fin 32} {f : Frame} (h : Runs s k f) (held : t.engine.held = s.engine.held)
    (frameIndex : t.engine.frameIndex = s.engine.frameIndex) (store : t.store = s.store) : Runs t k f := by
  unfold Runs slotOf at h ⊢
  rwa [held, frameIndex, store]

/-- Settles O29: the last bit taken, and the end of its high phase. -/
theorem claimAndResponseSlots : Obligations.ClaimAndResponseSlots := by
  constructor
  · intro s k f b u c taken comes waits st pos sent runs
    have bits : engineBits u = 36 := engineBits_within pos
    let before : State := (risen u).setEngine { (risen u).engine with
      pos := .within 37, phase := .high, left := highLen u, sent := none }
    have runs' : Runs before k f := runs
    have rises : riseCase (lastBitAtRise .claim 36) s = responderRise b (claimAtEngine c before) := by
      rw [riseCase_comes comes (by simp [lastBitAtRise, engineWaits, waits, st, bits, u]),
        engineRise_bit b waits (by simp [st]) (by simp [st]), engineTakeBit_runs (s := risen u) runs pos (.inl sent),
        bitRecord_claim (.inr rfl), afterBit_claim (p := 37) ?_ rfl, if_neg (by decide), if_pos rfl]
      · rfl
      · exact st
    refine ⟨fun proceeds body => ?_, fun ends => ?_⟩
    · refine congrArg Host.Outcome.next ?_
      show endCase .claim 37 (riseCase (lastBitAtRise .claim 36) s) = _
      rw [rises, claimAtEngine_goes runs' proceeds body]
      unfold endCase
      rw [if_neg (by simp [bitRuns, (responderRise_rest b _).1])]
      rfl
    · intro v r
      have state : responderRise b (claimAtEngine c before) = v := by
        rw [claimAtEngine_ends runs' ends]
        rfl
      obtain ⟨engine, line, -⟩ := responderRise_rest b { risen u with engine := taken }
      have engineV : v.engine = taken := engine
      have lineV : v.line = (risen u).line := line
      have isResult : claimResult c = r := by
        show _ = match c with | .proceed => FrameResult.accepted | .busy => .busy | .refuse => .refused | .none => .noTarget
        generalize c = code
        cases code <;> rfl
      have result : resultAtEnd (sbckLow v) = some r := by
        have engineLow : (sbckLow v).engine = taken := engineV
        rw [resultAtEnd_claim (n := 37) (by rw [engineLow]; exact st) (by rw [engineLow]), if_pos rfl, engineLow, ← isResult]
        rfl
      refine congrArg Host.Outcome.next ?_
      show endCase .claim 37 (riseCase (lastBitAtRise .claim 36) s) = _
      rw [rises, state, endCase_reports (r := r) (by simp [bitRuns, engineBits, engineV, taken, st]) (by rw [lineV]; rfl)
        (by rw [lineV]; exact comes.2.2.2.2.2.2) result, engineV]
  · intro s k f b u taken comes waits st pos runs sent body v r
    obtain ⟨low, -, -, -, level, -, notQuiet⟩ := id comes
    have lastU : engineLast u = 46 + 8 * f.length := by simp only [engineLast, runs.len]
    have last : engineLast s = 46 + 8 * f.length := by
      obtain ⟨engine, store⟩ := responderCountEnd_low ((responderCountEnd_sbck s).symm.trans low)
      have before : Runs s k f := runs.of_same (congrArg Engine.held engine).symm (congrArg Engine.frameIndex engine).symm store.symm
      simp only [engineLast, before.len]
    have bits : engineBits u = 45 + 8 * f.length := engineBits_within pos
    have rises : riseCase (lastBitAtRise .response (45 + 8 * f.length)) s = v := by
      rw [riseCase_comes comes (by simp [lastBitAtRise, engineWaits, waits, st, bits, u]),
        engineRise_bit b waits (by simp [st]) (by simp [st]), engineTakeBit_runs (s := risen u) runs pos sent,
        bitRecord_response rfl, afterBit_response ?_, show 45 + 8 * f.length + 1 = 46 + 8 * f.length by omega]
      · rfl
      · exact st
    obtain ⟨engine, line, store⟩ := responderRise_rest b { risen u with engine := taken }
    have engineV : v.engine = taken := engine
    have lineV : v.line = (risen u).line := line
    have engineLow : (sbckLow v).engine = taken := engineV
    have runsV : Runs (sbckLow v) k f := runs.of_same (by rw [engineLow]) (by rw [engineLow]) store
    have isResult : (if f.kind = .read then (if taken.verified then FrameResult.accepted else .badCheck)
        else (if taken.respLow then .accepted else .noResponse)) = r := by
      show (if f.kind = .read then (if u.engine.verified then FrameResult.accepted else .badCheck)
        else (if (!b) then .accepted else .noResponse)) =
          if f.kind = .read then (if u.engine.verified then FrameResult.accepted else .badCheck)
          else (if b = false then .accepted else .noResponse)
      cases b <;> rfl
    have result : resultAtEnd (sbckLow v) = some r := by
      rw [resultAtEnd_response (n := 46 + 8 * f.length) runsV (by rw [engineLow]; exact st) (by rw [engineLow]), if_pos rfl,
        engineLow, isResult]
    refine congrArg Host.Outcome.next ?_
    show endCase .response (engineLast s) (riseCase (lastBitAtRise .response (engineLast s - 1)) s) = _
    rw [last, show 46 + 8 * f.length - 1 = 45 + 8 * f.length by omega, rises,
      endCase_reports (r := r) (by simp [bitRuns, engineBits, engineV, taken, st]) (by rw [lineV]; rfl)
        (by rw [lineV]; exact notQuiet) result, engineV]

end Sys2Proof.Machine

/-! The Controller Engine at a bus fault and at a wait timeout (R83, R84, R91, R92, R95). -/

namespace Sys2Proof.Machine

/-! ### The engine at a rise that it cannot use (R83, R95) -/

theorem restartReady_missed {e : Engine} {b : Bool} (missed : b = false ∨ e.pos = .between) : restartReady e b = false := by
  rcases missed with low | given <;> simp [restartReady, *]

/-- A bit taken otherwise than driven, outside a lost arbitration, is a bus fault. -/
theorem engineTakeBit_faults {s : State} {b : Bool} (otherwise : s.engine.sent = some (!b))
    (notLost : ¬ (s.engine.st = .arbitrating ∧ b = false)) : engineTakeBit b s = reportResult .busFault s := by
  unfold engineTakeBit
  rw [if_neg fun loses => notLost ?_, if_pos ((mismatch_iff _ _).mpr otherwise)]
  obtain ⟨st, -, low⟩ := (losesArbitration_iff _ _).mp loses
  exact ⟨st, low⟩

/-- The two ways in which BUS_FAULT comes at a rise. -/
theorem faultAtRise_iff (s : State) : faultAtRise s = true ↔ s.engine.phase = .waiting ∧
    ((s.engine.sent = some (!s.line.sbdt) ∧ ¬ losesArbitration s.engine s.line.sbdt = true) ∨
      (s.engine.st = .linking ∧ ¬ restartReady s.engine s.line.sbdt = true)) := by
  simp only [faultAtRise, engineWaits, Bool.and_eq_true, Bool.or_eq_true, beq_iff_eq, mismatch_iff, Bool.not_eq_true',
    Bool.not_eq_true]

/-! ### BUS_FAULT -/

theorem exec_busFault_rise {s : State} {b : Bool} (h : RiseComes (responderCountEnd s) b)
    (fault : faultAtRise (responderCountEnd s) = true) :
    exec .busFault s = .next (responderRise b (engineRise b (sbckHigh (responderCountEnd s)))) := by
  show execBusFault s = _
  unfold execBusFault
  rw [canRise_of h, fault, riseEvent_comes h]
  rfl

/-- With SBCK high no rise comes, and BUS_FAULT is the condition. -/
theorem exec_busFault_condition {s : State} (high : s.line.sbck = true)
    (fault : s.engine.phase = .high ∨ (s.engine.phase = .condFirst ∧ s.engine.st = .linking)) :
    exec .busFault s = .next (if bothHigh s then startSeen s else stopEvent s) := by
  have noRise : canRise (responderCountEnd s) = false := by
    simp [canRise, responderCountEnd_sbck, high]
  show execBusFault s = _
  unfold execBusFault
  rw [noRise, (conditionFaults_iff s).mpr fault]
  rfl

/-- Outside its own Stop the engine takes a Stop for a condition. -/
theorem engineStopSeen_condition {s : State} (h : s.engine.phase ≠ .stopWait) : engineStopSeen s = engineCondition s := by
  unfold engineStopSeen
  rw [if_neg (by simp [engineStopDone, h])]

/-! ### The wait timeout (R91, R92) -/

theorem waitDue_iff (s : State) : waitDue s = true ↔ s.engine.st.inFrame = true ∧ s.engine.phase = .waiting ∧
    ∃ n, s.engine.waitTimer = some n ∧ s.engine.waitLimit.toNat ≤ n := by
  unfold waitDue
  cases s.engine.waitTimer <;> simp [and_assoc]

theorem reportResult_waitTimeout_engine (s : State) : (reportResult .waitTimeout s).engine =
    { s.engine with
      st := .stopping, held := none, phase := .timeoutWait, left := 0, waitTimer := none, driveSbdt := false, sent := none } := by
  rcases reportResult_ends .waitTimeout s with ⟨k, f, u, -, accepted, -⟩ | ⟨u, engine, -, eq⟩
  · cases accepted
  · rw [eq, ← engine]
    rfl

/-- Settles O30: the fault at a rise, the fault by a condition, and the wait that reached its limit. -/
theorem busFaultAndWaitTimeout : Obligations.BusFaultAndWaitTimeout := by
  refine ⟨⟨fun s b => ?bit, fun s b => ?restart, fun s fault sbck sbdt => ?start, fun s fault sbck sbdt released recovery => ?stop⟩,
    fun s n inFrame waits timer limit => ⟨?timeout, reportResult_waitTimeout_engine s⟩⟩
  case bit =>
    intro u comes waits notStopping notLinking otherwise notLost
    have level : u.line.sbdt = b := comes.2.2.2.2.1
    have fault : faultAtRise u = true := by
      rw [faultAtRise_iff, level]
      refine ⟨waits, .inl ⟨otherwise, fun loses => notLost ?_⟩⟩
      obtain ⟨st, -, low⟩ := (losesArbitration_iff _ _).mp loses
      exact ⟨st, low⟩
    rw [exec_busFault_rise comes fault, engineRise_bit b waits notStopping notLinking,
      engineTakeBit_faults (s := risen _) otherwise notLost]
  case restart =>
    intro u comes waits linking missed
    have level : u.line.sbdt = b := comes.2.2.2.2.1
    have fault : faultAtRise u = true := by
      rw [faultAtRise_iff, level]
      exact ⟨waits, .inr ⟨linking, by simp [restartReady_missed missed]⟩⟩
    rw [exec_busFault_rise comes fault, engineRise_restartMissed waits linking (restartReady_missed missed)]
  case start =>
    rw [exec_busFault_condition sbck fault, if_pos ((bothHigh_iff s).mpr ⟨sbck, sbdt⟩)]
    unfold startSeen
    rw [engineCondition_faults (s := sbdtLow s) fault]
    rfl
  case stop =>
    have own : (sbdtHigh s).engine.phase ≠ .stopWait := by
      show s.engine.phase ≠ .stopWait
      rcases fault with high | ⟨half, -⟩ <;> simp [*]
    have busy : (responderClose (reportResult .busFault (sbdtHigh s))).engine.st ≠ .idle := by
      rw [(responderClose_frame _).engine]
      exact reportResult_engine_busy (by simp) (by simp) _
    rw [exec_busFault_condition sbck fault, if_neg (by simp [bothHigh_iff, sbdt]), stopEvent_rises sbck sbdt released recovery,
      engineStopSeen_condition own, engineCondition_faults (s := sbdtHigh s) fault, choose_not_idle busy]
    rfl
  case timeout =>
    refine congrArg Host.Outcome.next ?_
    unfold waitTimeoutEvent
    rw [if_pos ((waitDue_iff s).mpr ⟨inFrame, waits, n, timer, limit⟩),
      choose_not_idle (reportResult_engine_busy (by simp) (by simp) s)]

end Sys2Proof.Machine

/-! The conditions that the engine produces, and the phase counts of the part as controller (R2, R4, R7, R85, R92, R95, R97). -/

namespace Sys2Proof.Machine

/-! ### The lines read low (R18) -/

theorem Line.lowRead_eq (l : Line) : l.lowRead =
    { l with state := if l.state = .quiet then .active else l.state, quietTb := 0, quietPart := 0 } := rfl

theorem Line.lowRead_notQuiet (l : Line) : l.lowRead.state ≠ .quiet := by
  rw [Line.lowRead_eq]
  dsimp only
  split
  · simp
  · assumption

/-- A low SBDT, then a low SBCK: the line state changes once. -/
theorem sbckLow_sbdtLow (s : State) : sbckLow (sbdtLow s) =
    { s with line := { s.line with
      sbck := false, sbdt := false, state := if s.line.state = .quiet then .active else s.line.state, quietTb := 0,
      quietPart := 0 } } := by
  have state : (sbdtLow s).line.state ≠ .quiet := Line.lowRead_notQuiet s.line
  rw [sbckLow_notQuiet state]
  rfl

/-! ### The Responder at a Start and at a fall (R132, R144) -/

theorem midFrame_iff (r : Responder) :
    midFrame r = true ↔ (∃ n, r.pos = .within n) ∨ (r.pos = .boundary ∧ r.high = .lastBit) := by
  unfold midFrame
  cases r.pos <;> simp

theorem responderStart_off {s : State} (off : s.responder.st = .off) : responderStart s = s := if_pos off

/-- A Responder that listens to a Start. -/
def Responder.opened (r : Responder) : Responder :=
  { r with st := .decoding, pos := .within 0, high := .plain, header := 0, crc := crcInit, goesOn := false }

theorem responderStart_outside {s : State} (on : s.responder.st ≠ .off) (outside : midFrame s.responder = false) :
    responderStart s = s.setResponder s.responder.opened := by
  unfold responderStart breakFrame
  rw [if_neg on, if_neg (by simp [outside])]
  rfl

theorem responderStart_inside {s : State} (on : s.responder.st ≠ .off) (inside : midFrame s.responder = true) :
    responderStart s = (giveUpFrame s).setResponder (giveUpFrame s).responder.opened := by
  unfold responderStart breakFrame
  rw [if_neg on, if_pos inside]
  rfl

theorem responderFall_off {s : State} (off : s.responder.st = .off) : responderFall s = s := by
  simp only [responderFall, off]

/-- The Responder at a fall where it sends nothing. -/
theorem responderFall_takes {s : State} (takes : s.responder.st = .listening ∨ s.responder.st = .decoding ∨
    s.responder.st = .passive ∨ s.responder.st = .receiving) : responderFall s = s.setResponder
      { s.responder with
        pos := if s.responder.pos = .boundary ∧ s.responder.high = .condition then .between else s.responder.pos
        high := .plain
        delay := if s.responder.driveSbdt then some Config.responderDelay else none
        want := false
        commits := false } := by
  rcases takes with st | st | st | st <;> simp only [responderFall, st]

/-! ### The Stop and IDLE (R78, R97, R175) -/

theorem engineStopDone_iff (s : State) : engineStopDone s = true ↔ s.engine.st = .stopping ∧ s.engine.phase = .stopWait := by
  simp [engineStopDone]

theorem engineToIdle_stays {s : State} (h : s.port.state ≠ .stopping) : engineToIdle s = s.setEngine s.engine.idled := if_neg h

theorem engineToIdle_stops {s : State} (h : s.port.state = .stopping) : engineToIdle s = stopEnds (s.setEngine s.engine.idled) :=
  if_pos h

/-! ### A rise that begins a condition's high phase (R7, R92) -/

theorem engineRise_condition {s : State} {b : Bool} (waits : s.engine.phase = .waiting)
    (ready : s.engine.st = .stopping ∨ (s.engine.st = .linking ∧ restartReady s.engine b = true)) :
    engineRise b (sbckHigh s) = (risen s).setEngine
      { s.engine with waitTimer := none, phase := .condFirst, left := s.cfg.bitDiv.toNat / 2 / 2 } := by
  have waits' : (sbckHigh s).engine.phase = .waiting := waits
  unfold engineRise
  rcases ready with stopping | ⟨linking, ready⟩
  · have stopping' : (sbckHigh s).engine.st = .stopping := stopping
    simp only [waits', stopping']
    rw [← stopping']
    rfl
  · have linking' : (sbckHigh s).engine.st = .linking := linking
    have ready' : restartReady (sbckHigh s).engine b = true := ready
    simp only [waits', linking']
    rw [if_pos ready', ← linking']
    rfl

theorem engineRise_timeout {s : State} {b : Bool} (waits : s.engine.phase = .timeoutWait) (timer : s.engine.waitTimer = none) :
    engineRise b (sbckHigh s) = (risen s).setEngine
      { s.engine with waitTimer := none, phase := .timeoutHigh, left := s.cfg.bitDiv.toNat / 2 } := by
  have waits' : (sbckHigh s).engine.phase = .timeoutWait := waits
  unfold engineRise
  simp only [waits']
  rw [← timer]
  rfl

/-! ### The counts of the part as controller (R2, R4, R7) -/

theorem exec_controllerCount {s : State} (recovery : s.port.recovery = .none) :
    exec (.phaseCountEnd .controller) s = .next (engineCountEnd s) :=
  congrArg Host.Outcome.next (if_pos recovery)

/-- The counts that end in a high phase's fall. -/
def ClockPhase.endsInFall (p : ClockPhase) : Prop :=
  p = .startHold ∨ p = .high ∨ p = .condSecond ∨ p = .timeoutHigh

theorem engineCountEnd_falls {s : State} (h : s.engine.phase.endsInFall) : engineCountEnd s = clockFalls s := by
  rcases h with h | h | h | h <;> simp only [engineCountEnd, h]

theorem engineCountEnd_lowFirst {s : State} (h : s.engine.phase = .lowFirst) : engineCountEnd s = engineMidpoint s := by
  simp only [engineCountEnd, h]

theorem engineCountEnd_lowSecond {s : State} (h : s.engine.phase = .lowSecond) :
    engineCountEnd s = engineReleasesClock s := by
  simp only [engineCountEnd, h]

theorem engineCountEnd_condFirst {s : State} (h : s.engine.phase = .condFirst) : engineCountEnd s = engineCondHalf s := by
  simp only [engineCountEnd, h]

theorem engineCountEnd_stopWait {s : State} (h : s.engine.phase = .stopWait) : engineCountEnd s = engineGivesUpStop s := by
  simp only [engineCountEnd, h]

/-- The engine in the second half of its Restart's high phase (R7). -/
def restartPulls (s : State) : Engine :=
  { s.engine with
    driveSbdt := true, phase := .condSecond, left := s.cfg.bitDiv.toNat / 2 - s.cfg.bitDiv.toNat / 2 / 2 }

/-- Half the high phase before a Restart is over: SBDT is pulled low, a Start to the Responder. -/
theorem engineCondHalf_restart {s : State} (linking : s.engine.st = .linking) :
    engineCondHalf s = responderStart (sbdtLow (s.setEngine (restartPulls s))) := if_pos linking

theorem engineCondHalf_stop {s : State} (stopping : s.engine.st = .stopping) : engineCondHalf s =
    s.setEngine { s.engine with driveSbdt := false, phase := .stopWait, left := s.cfg.bitDiv.toNat / 2 / 2 } :=
  if_neg (by simp [stopping])

/-! ### The engine at a fall, by its phase (R4, R8, R95) -/

theorem engineFall_startHold {s : State} (h : s.engine.phase = .startHold) : engineFall s = pullClock s := by
  simp only [engineFall, h]

theorem engineFall_condSecond {s : State} (h : s.engine.phase = .condSecond) : engineFall s = pullClock (restartDone s) := by
  simp only [engineFall, h]

/-- A high phase that ends before its condition is on the bus, or that carries none. -/
theorem engineFall_leaves {s : State} (h : s.engine.phase = .condFirst ∨ s.engine.phase = .stopWait ∨
    s.engine.phase = .timeoutHigh) : engineFall s = pullClock (leaveBoundary s) := by
  rcases h with h | h | h <;> simp only [engineFall, h]

theorem leaveBoundary_eq (s : State) : leaveBoundary s =
    s.setEngine { s.engine with pos := if s.engine.pos = .boundary then .between else s.engine.pos } := by
  unfold leaveBoundary
  split
  · rfl
  · rfl

theorem clockFalls_leaves {s : State} (h : s.engine.phase = .condFirst ∨ s.engine.phase = .stopWait ∨
    s.engine.phase = .timeoutHigh) : clockFalls s = responderFall
      { s with
        line := { s.line with
          sbck := false, state := if s.line.state = .quiet then .active else s.line.state, quietTb := 0, quietPart := 0 }
        engine := { s.engine with
          driveSbck := true, phase := .lowFirst, left := lowLen s / 2
          pos := if s.engine.pos = .boundary then .between else s.engine.pos } } := by
  unfold clockFalls
  rw [engineFall_leaves (s := sbckLow s) h, leaveBoundary_eq]
  rfl

/-- The end of the Restart's high phase: the linked frame begins. -/
theorem clockFalls_condSecond {s : State} (h : s.engine.phase = .condSecond) : clockFalls s = responderFall
    { s with
      line := { s.line with
        sbck := false, state := if s.line.state = .quiet then .active else s.line.state, quietTb := 0, quietPart := 0 }
      engine := { s.engine with
        st := .header, pos := .within 0, crc := 0xFF, claim := none, check := 0, verified := false, respLow := false,
        driveSbck := true, phase := .lowFirst, left := lowLen s / 2 } } := by
  unfold clockFalls
  rw [engineFall_condSecond (s := sbckLow s) h]
  rfl

/-! ### RESTART (R95) -/

/-- The Restart with SBCK high: SBDT falls, then SBCK. -/
theorem exec_restart {s : State} (linking : s.engine.st = .linking) (half : s.engine.phase = .condFirst)
    (high : s.line.sbck = true) : exec .restart s = .next (clockFalls (engineCondHalf s)) := by
  have frame := responderStart_frame (sbdtLow (s.setEngine (restartPulls s)))
  rw [← engineCondHalf_restart linking] at frame
  have engine := frame.engine
  have level : (engineCondHalf s).line.sbck = true := by rw [frame.line]; exact high
  refine congrArg Host.Outcome.next ?_
  unfold restartHalf
  rw [if_pos ⟨linking, half⟩]
  unfold restartEnds
  rw [if_pos ⟨by rw [engine]; exact linking, by rw [engine]; rfl⟩]
  exact if_pos level

theorem clockFalls_line (s : State) (e : Engine) (r : Responder) (falls : e.phase = .condSecond) :
    clockFalls ((sbdtLow (s.setEngine e)).setResponder r) = responderFall
      { s with
        responder := r
        line := { s.line with
          sbck := false, sbdt := false, state := if s.line.state = .quiet then .active else s.line.state, quietTb := 0,
          quietPart := 0 }
        engine := { e with
          st := .header, pos := .within 0, crc := 0xFF, claim := none, check := 0, verified := false, respLow := false,
          driveSbck := true, phase := .lowFirst, left := lowLen s / 2 } } := by
  have low : sbckLow ((sbdtLow (s.setEngine e)).setResponder r) = (sbckLow (sbdtLow (s.setEngine e))).setResponder r := rfl
  unfold clockFalls
  rw [low, sbckLow_sbdtLow, engineFall_condSecond falls]
  rfl

/-- Settles O31: each condition's high phase by its phase count, and the entry into IDLE. -/
theorem conditionsOfEngine : Obligations.ConditionsOfEngine := by
  refine ⟨fun s linking half high => ⟨fun off => ?restartOff, fun listening boundary notLast released => ?restart⟩,
    ⟨fun s stopping waits high low released recovery notQuiet => ?stop, fun s stopping waits low => ?released⟩,
    ⟨fun s b comes => ⟨fun waits ready => ?condition, fun waits timer => ?timeout⟩,
      fun s recovery => ⟨fun half stopping => ?stopHalf, fun half linking => ?restartHalf, fun waits => ?givesUp⟩,
      fun s => ⟨fun phase => ⟨fun high => ?linkedFall, fun recovery => ?linkedCount⟩, fun recovery phase => ?timeoutCount,
        fun high phase => ?leaves⟩⟩,
    fun s => ⟨fun runs => engineToIdle_stays runs, fun stops => engineToIdle_stops stops⟩⟩
  case restartOff =>
    rw [exec_restart linking half high, engineCondHalf_restart linking, responderStart_off (s := sbdtLow (s.setEngine (restartPulls s))) off]
    exact congrArg Host.Outcome.next ((clockFalls_line s (restartPulls s) s.responder rfl).trans (responderFall_off off))
  case restart =>
    have on : s.responder.st ≠ .off := by simp [listening]
    have outside : midFrame s.responder = false := by
      simp [midFrame, boundary, notLast]
    rw [exec_restart linking half high, engineCondHalf_restart linking, responderStart_outside (s := sbdtLow (s.setEngine (restartPulls s))) on outside]
    refine congrArg Host.Outcome.next ((clockFalls_line s (restartPulls s) s.responder.opened rfl).trans ?_)
    rw [responderFall_takes (.inr (.inl rfl))]
    simp only [Responder.opened, released]
    rfl
  case stop =>
    refine congrArg Host.Outcome.next ?_
    show (if engineStopDone s = true then stopEvent s else s) = _
    have done : engineStopDone (sbdtHigh s) = true := (engineStopDone_iff _).mpr ⟨stopping, waits⟩
    rw [if_pos ((engineStopDone_iff s).mpr ⟨stopping, waits⟩), stopEvent_settled high low released recovery notQuiet]
    unfold engineStopSeen
    rw [if_pos done]
    rfl
  case released =>
    refine congrArg Host.Outcome.next ?_
    show (if (engineStopDone s && !s.line.sbdt) = true then engineCountEnd s else s) = _
    rw [if_pos (by simp [engineStopDone, stopping, waits, low]), engineCountEnd_stopWait waits]
    rfl
  case condition =>
    have ready' : s.engine.st = .stopping ∨ (s.engine.st = .linking ∧ restartReady s.engine b = true) :=
      ready.imp_right fun ⟨linking, high, pos⟩ => ⟨linking, by simp [restartReady, high, pos]⟩
    rw [exec_rise comes, engineRise_condition waits ready']
    rfl
  case timeout =>
    rw [exec_rise comes, engineRise_timeout waits timer]
    rfl
  case stopHalf =>
    rw [exec_controllerCount recovery, engineCountEnd_condFirst half, engineCondHalf_stop stopping]
    rfl
  case restartHalf =>
    intro fell opened
    have count : exec (.phaseCountEnd .controller) s = .next (responderStart fell) := by
      rw [exec_controllerCount recovery, engineCountEnd_condFirst half, engineCondHalf_restart linking]
      rfl
    refine ⟨fun off => ?_, fun on => ⟨fun outside => ?_, fun n inside => ?_⟩⟩
    · rw [count, responderStart_off (s := fell) off]
    · have notMid : midFrame fell.responder = false := by
        show midFrame s.responder = false
        rcases outside with pos | ⟨pos, notLast⟩ <;> simp [midFrame, *]
      rw [count, responderStart_outside (s := fell) on notMid]
      rfl
    · have mid : midFrame fell.responder = true :=
        (midFrame_iff _).mpr (inside.imp_left fun pos => ⟨n, pos⟩)
      rw [count, responderStart_inside (s := fell) on mid]
      rfl
  case givesUp =>
    rw [exec_controllerCount recovery, engineCountEnd_stopWait waits]
    rfl
  case linkedFall =>
    refine congrArg Host.Outcome.next ?_
    exact (if_pos high).trans (clockFalls_condSecond phase)
  case linkedCount =>
    rw [exec_controllerCount recovery, engineCountEnd_falls (.inr (.inr (.inl phase))), clockFalls_condSecond phase]
  case timeoutCount =>
    rw [exec_controllerCount recovery, engineCountEnd_falls (.inr (.inr (.inr phase))), clockFalls_leaves (.inr (.inr phase))]
  case leaves =>
    refine congrArg Host.Outcome.next ?_
    exact (if_pos high).trans (clockFalls_leaves phase)

end Sys2Proof.Machine

/-! What the part does at the end of a count of REFCLK periods, as controller and as follower (R1 to R3, R7, R80, R86 to R91, R132, R158). -/

namespace Sys2Proof.Machine

/-! ### The bit that the engine sends, by its place in the frame (R80, R86 to R89) -/

theorem engineHeader_runs {s : State} {k : Fin 32} {f : Frame} (runs : Runs s k f) :
    engineHeader s = headerOf (slotOf s k).prio s.cfg.ownAddr f := by
  obtain ⟨slot, frame⟩ := runs.frame
  unfold engineHeader
  rw [slot, frame]

theorem engineRegionByte_runs {s : State} {k : Fin 32} {f : Frame} (runs : Runs s k f) (j : Nat) :
    engineRegionByte s j = bufferByte (slotOf s k).data (regionStart (slotOf s k).chain s.engine.frameIndex + j) := by
  unfold engineRegionByte
  rw [runs.frame.1]

section
variable {s : State} {k : Fin 32} {f : Frame} {n : Nat}

theorem engineBit_header (runs : Runs s k f) (place : n < 35) :
    engineBit s n = some ((headerOf (slotOf s k).prio s.cfg.ownAddr f).getMsbD n) := by
  unfold engineBit
  rw [if_pos place, engineHeader_runs runs]

theorem engineBit_claim (start : 35 ≤ n) (below : n < 37) : engineBit s n = none := by
  unfold engineBit
  rw [if_neg (by omega), if_pos below]

theorem engineBit_writeBody (runs : Runs s k f) (write : f.kind = .write) (start : 37 ≤ n) (below : n < 37 + 8 * f.length) :
    engineBit s n = some (byteBit (bufferByte (slotOf s k).data
      (regionStart (slotOf s k).chain s.engine.frameIndex + (n - 37) / 8)) ((n - 37) % 8)) := by
  unfold engineBit
  rw [if_neg (by omega), if_neg (by omega), runs.len, if_pos below, runs.kind, if_pos (by rw [write]),
    engineRegionByte_runs runs]

theorem engineBit_writeCheck (runs : Runs s k f) (write : f.kind = .write) (start : 37 + 8 * f.length ≤ n)
    (below : n < 45 + 8 * f.length) : engineBit s n = some (byteBit s.engine.crc (n - (37 + 8 * f.length))) := by
  unfold engineBit
  rw [if_neg (by omega), if_neg (by omega), runs.len, if_neg (by omega), if_pos below, runs.kind, if_pos (by rw [write]),
    show n - 37 - 8 * f.length = n - (37 + 8 * f.length) by omega]

/-- A READ's body and check are the other party's to send. -/
theorem engineBit_read (runs : Runs s k f) (read : f.kind = .read) (start : 37 ≤ n) (below : n < 45 + 8 * f.length) :
    engineBit s n = none := by
  have notWrite : ¬ some f.kind = some .write := by simp [read]
  unfold engineBit
  rw [if_neg (by omega), if_neg (by omega), runs.len, runs.kind, if_neg notWrite, if_neg notWrite, if_pos below, ite_self]

theorem engineBit_response (runs : Runs s k f) (last : n = 45 + 8 * f.length) :
    engineBit s n = if f.kind = .read ∧ s.engine.verified = true then some false else none := by
  unfold engineBit
  rw [if_neg (by omega), if_neg (by omega), runs.len, if_neg (by omega), if_neg (by omega), runs.kind]
  simp

end

/-! ### The midpoint of the low phase (R2, R7) -/

/-- The line once SBDT is driven low. -/
def Line.dataLow (l : Line) : Line := { l.lowRead with sbdt := false }

/-- What the midpoint does with a bit of a frame, or with none. -/
def midpointSends (s : State) (bit : Option Bool) : State :=
  { s with
    engine := { s.engine with
      driveSbdt := decide (bit = some false), sent := bit, phase := .lowSecond, left := lowLen s - lowLen s / 2 }
    line := if bit = some false then s.line.dataLow else s.line }

theorem midpointSends_some (s : State) (bit : Bool) :
    let t := { s with engine := { s.engine with
      driveSbdt := !bit, sent := some bit, phase := .lowSecond, left := lowLen s - lowLen s / 2 } }
    midpointSends s (some bit) = if bit then t else { t with line := s.line.dataLow } := by
  cases bit <;> rfl

/-- In a frame SBDT takes the frame's bit. -/
theorem exec_midpoint_bit {s : State} {n : Nat} {bit : Option Bool} (recovery : s.port.recovery = .none)
    (phase : s.engine.phase = .lowFirst) (takes : s.engine.st.takesBit) (pos : s.engine.pos = .within n)
    (sends : engineBit s n = bit) : exec (.phaseCountEnd .controller) s = .next (midpointSends s bit) := by
  obtain ⟨notStopping, notLinking⟩ := takes
  have data : engineSetsData s = if bit = some false
      then sbdtLow (s.setEngine { s.engine with driveSbdt := bit == some false, sent := bit })
      else s.setEngine { s.engine with driveSbdt := bit == some false, sent := bit } := by
    unfold engineSetsData
    dsimp only
    rw [engineBits_within pos, sends]
    cases st : s.engine.st with
    | linking => exact absurd st notLinking
    | stopping => exact absurd st notStopping
    | _ => rfl
  rw [exec_controllerCount recovery, engineCountEnd_lowFirst phase]
  refine congrArg Host.Outcome.next ?_
  unfold engineMidpoint midpointSends
  rw [data]
  by_cases low : bit = some false
  · rw [if_pos low, if_pos low, low]
    rfl
  · rw [if_neg low, if_neg low, beq_eq_false_iff_ne.mpr low, decide_eq_false low]
    rfl

/-- Before a Restart SBDT is released. -/
theorem exec_midpoint_linking {s : State} (recovery : s.port.recovery = .none) (phase : s.engine.phase = .lowFirst)
    (linking : s.engine.st = .linking) : exec (.phaseCountEnd .controller) s = .next (midpointSends s none) := by
  rw [exec_controllerCount recovery, engineCountEnd_lowFirst phase]
  refine congrArg Host.Outcome.next ?_
  unfold engineMidpoint engineSetsData
  simp only [linking]
  rw [← linking]
  rfl

/-- Before a Stop SBDT is driven low. -/
theorem exec_midpoint_stopping {s : State} (recovery : s.port.recovery = .none) (phase : s.engine.phase = .lowFirst)
    (stopping : s.engine.st = .stopping) : exec (.phaseCountEnd .controller) s = .next
      { s with
        engine := { s.engine with driveSbdt := true, sent := none, phase := .lowSecond, left := lowLen s - lowLen s / 2 }
        line := s.line.dataLow } := by
  rw [exec_controllerCount recovery, engineCountEnd_lowFirst phase]
  refine congrArg Host.Outcome.next ?_
  unfold engineMidpoint engineSetsData
  simp only [stopping]
  rw [← stopping]
  rfl

/-! ### The Responder's counts (R132, R142, R158) -/

/-- The Responder once SBDT has taken the level that it sends. -/
def Responder.levelTaken (r : Responder) : Responder :=
  { r with delay := none, want := false, commits := false, driveSbdt := r.want }

/-- No commit goes with the level. -/
theorem levelSet_noCommit {s : State} (none : s.responder.commits = false ∨ s.line.sbck = true) :
    levelSet s = s.setResponder s.responder.levelTaken := by
  have same : commitNow s = s := by
    unfold commitNow
    split
    · exact if_neg (by rcases none with commits | high <;> simp [*])
    · rfl
  unfold levelSet
  rw [same]
  rfl

theorem responderReleases_none {s : State} (none : s.responder.release = .none) : responderReleases s = s := by
  simp only [responderReleases, none]

/-- A Start takes nothing of the Responder's hold of SBCK on. -/
theorem responderStart_release {s : State} (none : s.responder.release = .none) :
    (responderStart s).responder.release = .none := by
  unfold responderStart breakFrame
  split
  · exact none
  · split
    · rfl
    · exact none

/-- The Responder's count, where it is the count to the level that it sends and no commit is due. -/
theorem exec_responderCount {s : State} {d : Nat} (delay : s.responder.delay = some d) (release : s.responder.release = none)
    (noCommit : s.responder.commits = false ∨ s.line.sbck = true) :
    let t := s.setResponder s.responder.levelTaken
    exec (.phaseCountEnd .responder) s = .next (if s.responder.want then responderPulls t else t) := by
  intro t
  have sets : responderSets s = if s.responder.want then responderPulls t else t := by
    rw [responderSets_counting delay, levelSet_noCommit noCommit]
  have still : (if s.responder.want then responderPulls t else t).responder.release = none := by
    split
    · unfold responderPulls
      split
      · exact release
      · split
        · refine responderStart_release ?_
          rw [(engineCondition_frame _).responder]
          exact release
        · exact release
    · exact release
  refine congrArg Host.Outcome.next ?_
  show responderReleases (responderSets s) = _
  rw [sets, responderReleases_none still]

theorem responderPulls_low {s : State} (low : s.line.sbdt = false) : responderPulls s = s := if_pos (by simp [low])

theorem responderPulls_data {s : State} (high : s.line.sbdt = true) (low : s.line.sbck = false) :
    responderPulls s = sbdtLow s := by
  unfold responderPulls
  rw [if_neg (by simp [high]), if_neg (by simp [low])]

theorem responderPulls_start {s : State} (high : s.line.sbdt = true) (high' : s.line.sbck = true) :
    responderPulls s = startSeen s := by
  unfold responderPulls
  rw [if_neg (by simp [high]), if_pos high']

/-- Settles O32: the engine's counts in a header and past it, and the Responder's two counts. -/
theorem phaseCountEnds : Obligations.PhaseCountEnds := by
  refine ⟨fun s recovery => ⟨fun k f n phase runs pos place st => ?header, fun phase => ?release, fun phase => ?start⟩,
    fun s recovery phase => ⟨fun k f n runs pos st => ?body, fun linking => ?linking, fun stopping => ?stopping⟩,
    fun s d => ⟨fun delay release noCommit => ?level, fun delay release => ?free⟩⟩
  case header =>
    intro bit t
    have takes : s.engine.st.takesBit := by rcases st with st | st <;> exact EngineState.takesBit_of st (by simp) (by simp)
    rw [exec_midpoint_bit recovery phase takes pos (engineBit_header runs place)]
    exact congrArg Host.Outcome.next (midpointSends_some s bit)
  case release =>
    rw [exec_controllerCount recovery, engineCountEnd_lowSecond phase]
    rfl
  case start =>
    rw [exec_controllerCount recovery, engineCountEnd_falls (.inl phase)]
    unfold clockFalls
    rw [engineFall_startHold (s := sbckLow s) phase]
    rfl
  case body =>
    intro x start
    have takes : s.engine.st.takesBit := by rcases st with st | st | st | st <;> exact EngineState.takesBit_of st (by simp) (by simp)
    have midpoint (bit : Option Bool) (sends : engineBit s n = bit) := exec_midpoint_bit recovery phase takes pos sends
    refine ⟨fun lower upper => midpoint _ (engineBit_claim lower upper),
      fun write => ⟨fun lower upper => midpoint _ (engineBit_writeBody runs write lower upper),
        fun lower upper => midpoint _ (engineBit_writeCheck runs write lower upper), fun last => midpoint _ ?_⟩,
      fun read => ⟨fun lower upper => midpoint _ (engineBit_read runs read lower upper), fun last => midpoint _ ?_⟩⟩
    · rw [engineBit_response runs last, if_neg (by simp [write])]
    · rw [engineBit_response runs last]
      simp only [read, true_and]
  case linking => exact exec_midpoint_linking recovery phase linking
  case stopping => exact exec_midpoint_stopping recovery phase stopping
  case level =>
    intro set low faults
    have count := exec_responderCount delay release noCommit
    refine ⟨fun quiet => ?_, fun want high => ⟨fun clockLow => ?_, fun clockHigh => ⟨fun none => ?_, fun fault => ?_⟩⟩⟩
    · rw [count]
      rcases quiet with want | dataLow
      · rw [if_neg (by simp [want])]
        rfl
      · rw [responderPulls_low (s := s.setResponder s.responder.levelTaken) dataLow, ite_self]
        rfl
    · rw [count, if_pos want, responderPulls_data (s := s.setResponder s.responder.levelTaken) high clockLow]
      rfl
    · rw [count, if_pos want, responderPulls_start (s := s.setResponder s.responder.levelTaken) high clockHigh]
      unfold startSeen
      rw [engineCondition_none (s := sbdtLow (s.setResponder s.responder.levelTaken)) none]
      rfl
    · rw [count, if_pos want, responderPulls_start (s := s.setResponder s.responder.levelTaken) high clockHigh]
      unfold startSeen
      rw [engineCondition_faults (s := sbdtLow (s.setResponder s.responder.levelTaken)) fault]
      rfl
  case free =>
    refine congrArg Host.Outcome.next ?_
    show responderReleases (responderSets s) = _
    have sets : responderSets s = s := by simp only [responderSets, delay]
    rw [sets]
    simp only [responderReleases, release]
    rfl

end Sys2Proof.Machine

/-! Rises and falls of SBCK inside a frame, at the engine and at the Responder (R2, R4, R5, R13, R14, R80, R82, R86 to R90, R132, R133, R140, R141, R157). -/

namespace Sys2Proof.Machine

/-! ### Falls (R4, R90, R157) -/

/-- The line once SBCK is pulled low. -/
def Line.clockLow (l : Line) : Line := { l.lowRead with sbck := false }

/-- The end of a high phase where no result is due: the engine pulls SBCK low. -/
theorem exec_fall_pulls {s : State} (high : s.line.sbck = true) (phase : s.engine.phase = .high)
    (none : resultAtEnd (sbckLow s) = .none) : exec .sbckFall s = .next (responderFall
      { s with
        line := s.line.clockLow
        engine := { s.engine with driveSbck := true, phase := .lowFirst, left := lowLen s / 2 } }) := by
  rw [exec_fall high, engineFall_high (s := sbckLow s) phase, bitEnds_none none]
  rfl

/-- The end of a frame's last high phase: the result first, then SBCK low. -/
theorem exec_fall_reports {s : State} {r : FrameResult} (high : s.line.sbck = true) (phase : s.engine.phase = .high)
    (result : resultAtEnd (sbckLow s) = some r) : exec .sbckFall s = .next (responderFall (pullClock (reportResult r
      { s with line := s.line.clockLow, engine := { s.engine with pos := .boundary } }))) := by
  rw [exec_fall high, engineFall_high (s := sbckLow s) phase, bitEnds_some result]
  rfl

theorem exec_fall_follower {s : State} (high : s.line.sbck = true) (phase : s.engine.phase = .none) :
    exec .sbckFall s = .next (responderFall { s with line := s.line.clockLow }) := by
  rw [exec_fall high, engineFall_idle (s := sbckLow s) (.inl phase)]
  rfl

/-- The Responder's bit in SENDING (R140). -/
theorem responderDrivesLow_sending {s : State} {n : Nat} (st : s.responder.st = .sending) (pos : s.responder.pos = .within n) :
    responderDrivesLow s = !(if n < 37 + 8 * frameLen s
      then byteBit (bufferByte s.responder.sendBuf ((n - 37) / 8)) ((n - 37) % 8)
      else byteBit s.responder.crc (n - 37 - 8 * frameLen s)) := by
  simp only [responderDrivesLow, pos, st]
  split <;> rfl

theorem responderFall_sending {s : State} (st : s.responder.st = .sending) : responderFall s = s.setResponder
    { s.responder with delay := some Config.responderDelay, want := responderDrivesLow s, commits := false } := by
  simp only [responderFall, st]

theorem responderFall_stalling {s : State} (st : s.responder.st = .stalling) :
    responderFall s = s.setResponder { s.responder with driveSbck := true } := by
  simp only [responderFall, st]

/-! ### Rises at the Responder (R133, R141) -/

theorem responderRise_decoding {s : State} {b : Bool} {n : Nat} (st : s.responder.st = .decoding)
    (pos : s.responder.pos = .within n) : responderRise b s =
      decodingBit (n + 1) b (s.setResponder { s.responder with pos := .within (n + 1) }) := by
  simp only [responderRise, pos, st]

theorem responderRise_receiving {s : State} {b : Bool} {n : Nat} (st : s.responder.st = .receiving)
    (pos : s.responder.pos = .within n) : responderRise b s =
      receivingBit (n + 1) b (s.setResponder { s.responder with pos := .within (n + 1) }) := by
  simp only [responderRise, pos, st]

/-- A header bit before the last. -/
theorem decodingBit_before {s : State} {b : Bool} {p : Nat} (before : p ≠ 35) : decodingBit p b s = s.setResponder
    { s.responder with
      header := headerShift s.responder.header b, crc := crcStep s.responder.crc b, check := 0, verified := false } :=
  if_neg before

/-- A body bit. -/
theorem receivingBit_body {s : State} {b : Bool} {p : Nat} (body : p ≤ 37 + 8 * frameLen s) :
    receivingBit p b s = s.setResponder { s.responder with
      intake := bufferShiftIn s.responder.intake ((p - 38) / 8) b, crc := crcStep s.responder.crc b } := if_pos body

/-! ### What the engine takes at a rise (R13, R14, R80, R82, R86 to R89) -/

section
variable {s : State} {b : Bool} {k : Fin 32} {f : Frame} {n : Nat}

/-- A bit of a frame without a mismatch: the engine `e` that results where what follows the bit is a change of the engine alone. -/
theorem exec_rise_takes {e : Engine} (comes : RiseComes s b) (waits : s.engine.phase = .waiting)
    (takes : s.engine.st.takesBit) (sent : s.engine.sent = none ∨ s.engine.sent = some b) (runs : Runs s k f)
    (pos : s.engine.pos = .within n)
    (follows : afterBit b ((risen s).setEngine (bitRecord (risen s).engine f.kind (8 * f.length) n (highLen s) b)) =
      (risen s).setEngine e) :
    exec (.sbckRise true) s = .next (responderRise b { risen s with engine := e }) := by
  rw [exec_rise_runs comes waits takes sent runs pos, follows]
  rfl

end

/-- Settles O33, by the engine's phase at a fall, and by the two blocks' states at a rise. -/
theorem sbckChanges : Obligations.SbckChanges := by
  refine ⟨fun s high => ⟨fun phase => ⟨fun st => ?inner, fun st => ⟨fun n pos below => ?claimFirst, fun pos => ?claimEnd⟩,
      fun k f n st runs pos => ⟨fun below => ?before, fun last => ?response⟩⟩,
    fun recovery phase => ?ownCount, fun phase => ?follower, fun n phase st pos => ?sending, fun phase st => ?stalling⟩,
    ⟨fun s b n comes waits st pos place sent => ?header, fun s b n comes phase st pos place => ?decoding,
      fun s b n comes phase st pos start body => ?receiving, fun s delay release => ?settled⟩,
    fun s b k f n comes waits sent runs pos => ?bits⟩
  case inner =>
    refine exec_fall_pulls high phase (resultAtEnd_state (s := sbckLow s) ?_ ?_) <;>
      (rcases st with st | st | st | st <;> exact fun h => nomatch st.symm.trans h)
  case claimFirst =>
    refine exec_fall_pulls high phase ?_
    rw [resultAtEnd_claim (s := sbckLow s) st pos, if_neg (by omega)]
  case claimEnd =>
    have ends (c : ClaimCode) (claim : s.engine.claim = some c) :=
      exec_fall_reports (r := claimResult c) high phase
        (by rw [resultAtEnd_claim (s := sbckLow s) st pos, if_pos rfl, show (sbckLow s).engine.claim = some c from claim]; rfl)
    exact ⟨ends .proceed, ends .busy, ends .refuse, ends .none⟩
  case before =>
    refine exec_fall_pulls high phase ?_
    rw [resultAtEnd_response (s := sbckLow s) runs st pos, if_neg (by omega)]
  case response =>
    have result := (resultAtEnd_response (s := sbckLow s) runs st pos).trans (if_pos last)
    refine ⟨fun read => exec_fall_reports high phase ?_, fun write => exec_fall_reports high phase ?_⟩
    · rw [result, if_pos read]
      rfl
    · rw [result, if_neg (by simp [write])]
      rfl
  case ownCount =>
    rw [exec_controllerCount recovery, engineCountEnd_falls phase]
    exact (congrArg Host.Outcome.next (if_pos high)).symm
  case follower => exact exec_fall_follower high phase
  case sending =>
    rw [exec_fall_follower high phase, responderFall_sending (s := { s with line := s.line.clockLow }) st,
      responderDrivesLow_sending (s := { s with line := s.line.clockLow }) st pos]
    rfl
  case stalling =>
    rw [exec_fall_follower high phase, responderFall_stalling (s := { s with line := s.line.clockLow }) st]
    rfl
  case header =>
    have takes : s.engine.st.takesBit := EngineState.takesBit_of st (by simp) (by simp)
    rw [exec_rise_bit comes waits takes.1 takes.2, engineTakeBit_header (s := risen s) pos (by omega) (.inr sent),
      afterBit_header (p := n + 1) ?_ rfl, if_neg (by omega)]
    · rfl
    · exact st
  case decoding =>
    rw [exec_rise_follower comes phase, responderRise_decoding (s := sbckHigh s) st pos, decodingBit_before (by omega)]
    rfl
  case receiving =>
    rw [exec_rise_follower comes phase, responderRise_receiving (s := sbckHigh s) st pos, receivingBit_body ?_,
      show n + 1 - 38 = n - 37 by omega]
    · rfl
    · show n + 1 ≤ 37 + 8 * frameLen s
      omega
  case settled =>
    refine congrArg Host.Outcome.next ?_
    show settledRise s = riseEvent s
    unfold settledRise
    rw [responderCountEnd_settled delay release]
    unfold riseEvent
    split <;> rfl
  case bits =>
    intro taken crc check takes
    have rises {e : Engine} (inFrame : s.engine.st.takesBit) (follows : afterBit b ((risen s).setEngine
        (bitRecord (risen s).engine f.kind (8 * f.length) n (highLen s) b)) = (risen s).setEngine e) : takes e :=
      exec_rise_takes comes waits inFrame sent runs pos follows
    refine ⟨fun st place => ?arbitrating, fun st place => ?wins, fun st place => ?inHeader, fun st place => ?lastOfHeader,
      fun st place => ?firstClaim, fun st place => ⟨fun proceeds goes => ?goesOn, fun ends => ?endsHere⟩,
      fun st start below => ⟨fun read => ?readBody, fun write => ?writeBody⟩,
      fun st start => ⟨fun below => ⟨fun read => ?readCheck, fun write => ?writeCheck⟩,
        fun last => ⟨fun read => ?readVerified, fun write => ?writeLast⟩⟩, fun st place => ?slot⟩
    case arbitrating =>
      refine rises (EngineState.takesBit_of st (by simp) (by simp)) ?_
      rw [bitRecord_header (by omega), afterBit_arbitrating ?_ rfl, if_neg (by omega)]
      · rfl
      · exact st
    case wins =>
      obtain rfl : n = 19 := by omega
      have inFrame : s.engine.st.takesBit := EngineState.takesBit_of st (by simp) (by simp)
      rw [exec_rise_runs comes waits inFrame sent runs pos, bitRecord_header (by omega), afterBit_arbitrating (p := 20) ?_ rfl,
        if_pos rfl, arbitrationWon_held (k := k) ?_]
      · rfl
      · exact runs.1
      · exact st
    case inHeader =>
      refine rises (EngineState.takesBit_of st (by simp) (by simp)) ?_
      rw [bitRecord_header (by omega), afterBit_header ?_ rfl, if_neg (by omega)]
      · rfl
      · exact st
    case lastOfHeader =>
      refine rises (EngineState.takesBit_of st (by simp) (by simp)) ?_
      rw [bitRecord_header (by omega), afterBit_header ?_ rfl, if_pos place]
      · rfl
      · exact st
    case firstClaim =>
      refine rises (EngineState.takesBit_of st (by simp) (by simp)) ?_
      rw [bitRecord_claim (by omega), afterBit_claim ?_ rfl, if_pos place]
      · rfl
      · exact st
    case goesOn =>
      refine rises (EngineState.takesBit_of st (by simp) (by simp)) ?_
      rw [bitRecord_claim (by omega), afterBit_claim ?_ rfl, if_neg (by omega), if_pos place]
      · refine (claimAtEngine_goes (k := k) (f := f) ?_ proceeds goes).trans rfl
        exact runs
      · exact st
    case endsHere =>
      refine rises (EngineState.takesBit_of st (by simp) (by simp)) ?_
      rw [bitRecord_claim (by omega), afterBit_claim ?_ rfl, if_neg (by omega), if_pos place]
      · refine (claimAtEngine_ends (k := k) (f := f) ?_ ends).trans rfl
        exact runs
      · exact st
    case readBody =>
      refine rises (EngineState.takesBit_of st (by simp) (by simp)) ?_
      rw [bitRecord_readBody read start below, afterBit_body (k := k) (f := f) ?_ ?_ rfl]
      · split
        · rfl
        · rw [← st]
          rfl
      · exact runs
      · exact st
    case writeBody =>
      refine rises (EngineState.takesBit_of st (by simp) (by simp)) ?_
      rw [bitRecord_writeBody write start below, afterBit_body (k := k) (f := f) ?_ ?_ rfl]
      · split
        · rfl
        · rw [← st]
          rfl
      · exact runs
      · exact st
    case readCheck =>
      refine rises (EngineState.takesBit_of st (by simp) (by simp)) ?_
      rw [bitRecord_readCheck read start (by omega), afterBit_check (k := k) (f := f) ?_ ?_ rfl, if_neg (by omega)]
      · rfl
      · exact runs
      · exact st
    case writeCheck =>
      refine rises (EngineState.takesBit_of st (by simp) (by simp)) ?_
      rw [bitRecord_writeCheck write start, afterBit_check (k := k) (f := f) ?_ ?_ rfl, if_neg (by omega)]
      · rfl
      · exact runs
      · exact st
    case readVerified =>
      refine rises (EngineState.takesBit_of st (by simp) (by simp)) ?_
      rw [bitRecord_readCheck read start (by omega), afterBit_check (k := k) (f := f) ?_ ?_ rfl, if_pos last]
      · simp only [read, true_and]
        rfl
      · exact runs
      · exact st
    case writeLast =>
      refine rises (EngineState.takesBit_of st (by simp) (by simp)) ?_
      rw [bitRecord_writeCheck write start, afterBit_check (k := k) (f := f) ?_ ?_ rfl, if_pos last]
      · simp only [write, reduceCtorEq, false_and, decide_false]
        rfl
      · exact runs
      · exact st
    case slot =>
      refine rises (EngineState.takesBit_of st (by simp) (by simp)) ?_
      rw [bitRecord_response place, afterBit_response ?_]
      · rfl
      · exact st

end Sys2Proof.Machine

/-! The line states and what the part does at them: changes of SBDT, QUIET, ACTIVE and STUCK (R8, R18 to R22, R85, R98, R176, R177). -/

namespace Sys2Proof.Machine

/-! ### QUIET and ACTIVE (R18 to R20) -/

theorem canQuiet_iff (s : State) : canQuiet s = true ↔ s.line.sbck = true ∧ s.line.sbdt = true ∧ s.line.state = .active ∧
    s.engine.phase = .none ∧ s.port.recovery = .none ∧ s.responder.delay = none ∧ s.responder.release = none := by
  simp [canQuiet, bothHigh, noCount, and_assoc]

/-- An engine that produces no clock takes no condition. -/
theorem engineCondition_idle {s : State} (phase : s.engine.phase = .none ∨ s.engine.phase = .startDue) :
    engineCondition s = s :=
  engineCondition_none fun fault => by
    rcases phase with idle | due <;> rcases fault with fault | ⟨fault, -⟩ <;> simp_all

/-- Settles O34: the three changes of the lines, each by its own reading. -/
theorem lineChangesAndStates : Obligations.LineChangesAndStates := by
  refine ⟨fun s low => ⟨fun high => ?falls, fun dataLow released => ?rises⟩,
    fun s sbck sbdt active phase recovery delay release => ?quiet, fun s quiet sbck sbdt phase => ⟨?clock, ?data⟩⟩
  case falls =>
    refine congrArg Host.Outcome.next ?_
    unfold dataEvent
    rw [if_neg (by simp [low]), if_pos high]
    rfl
  case rises =>
    refine congrArg Host.Outcome.next ?_
    unfold dataEvent
    rw [if_neg (by simp [low]), if_neg (by simp [dataLow]), if_neg (by simp [released])]
    rfl
  case quiet =>
    intro q
    have engine : q.engine = s.engine := (responderClose_frame _).engine
    refine congrArg Host.Outcome.next ?_
    show quietEvent s = _
    unfold quietEvent
    rw [if_pos ((canQuiet_iff s).mpr ⟨sbck, sbdt, active, phase, recovery, delay, release⟩), ← engine]
    rfl
  case clock =>
    refine congrArg Host.Outcome.next ?_
    unfold lineActive
    rw [if_pos quiet]
    dsimp only
    rw [fallEvent_high sbck, engineFall_idle (s := sbckLow s) phase]
    unfold sbckLow
    rw [Line.lowRead_eq, quiet]
    rfl
  case data =>
    refine congrArg Host.Outcome.next ?_
    unfold lineActive
    rw [if_pos quiet]
    dsimp only
    rw [startEvent_high sbck sbdt, engineCondition_idle (s := sbdtLow s) phase]
    unfold sbdtLow
    rw [Line.lowRead_eq, quiet]
    rfl

/-! ### What a stuck line leaves (R22, R98) -/

theorem giveUpFrame_page (s : State) : (giveUpFrame s).page = s.page := by
  show (endAllFrames s).page = s.page
  unfold endAllFrames
  dsimp only
  split <;> rfl

theorem responderOff_page (s : State) : (responderOff s).page = s.page := giveUpFrame_page s

theorem responderClose_page (s : State) : (responderClose s).page = s.page := by
  unfold responderClose breakFrame
  split
  · rfl
  · show (if _ then _ else _ : State).page = s.page
    split
    · exact giveUpFrame_page s
    · rfl

theorem responderClose_off {s : State} (off : s.responder.st = .off) : responderClose s = s := if_pos (.inl off)

/-- BUS_STUCK is nothing to a node (R65). -/
theorem nodeResult_busStuck (a : Byte) (s : State) : nodeResult .busStuck a s = s := by
  have no : resultSuspends .busStuck a s = false := by
    unfold resultSuspends
    split <;> rfl
  have same := mapNodes_takeResult_none (r := .busStuck) (.inr (.inl rfl)) a s
  unfold nodeResult
  dsimp only
  rw [no, if_neg Bool.false_ne_true]
  calc mapNodes (· == a) (NodeEntry.takeResult .busStuck) s
    _ = s.setNodes (mapNodes (· == a) (NodeEntry.takeResult .busStuck) s).nodes := rfl
    _ = s := by rw [same]; rfl

/-- BUS_STUCK of a frame: its attempt ends, and the engine enters IDLE (R98). -/
theorem reportResult_busStuck_runs {s : State} {k : Fin 32} {f : Frame} (runs : Runs s k f) :
    reportResult .busStuck s = engineToIdle (attemptEnd k .busStuck (s.engine.arb == .won) s) := by
  have taken : resultTaken .busStuck k f s = s := nodeResult_busStuck f.dest s
  have no : resultSuspends .busStuck f.dest s = false := by
    unfold resultSuspends
    split <;> rfl
  rw [reportResult_ended runs (fun links => by cases links.1), taken, no]
  rfl

/-- The request side that the engine leaves when it enters IDLE at a stuck line. -/
def stuckAttempt (s : State) (u : State) : Prop :=
  RequestFrame s u ∧ u.engine = s.engine ∧
    (∀ k f, Runs s k f → s.engine.st.inFrame = true → u = attemptEnd k .busStuck (s.engine.arb == .won) s)

/-- The engine at a stuck line: an idle one stays, any other enters IDLE after its attempt (R98). -/
theorem engineStuck_cases (s : State) :
    (s.engine.st = .idle ∧ engineStuck s = s) ∨
      (s.engine.st ≠ .idle ∧ ∃ u, stuckAttempt s u ∧ engineStuck s = engineToIdle u) := by
  by_cases inFrame : s.engine.st.inFrame = true
  · have busy : s.engine.st ≠ .idle := fun idle => by simp [idle, EngineState.inFrame] at inFrame
    refine .inr ⟨busy, ?_⟩
    unfold engineStuck
    rw [if_pos inFrame]
    by_cases run : ∃ k f, Runs s k f
    · obtain ⟨k, f, runs⟩ := run
      refine ⟨_, ⟨attemptEnd_frame _ _ _ _, attemptEnd_engine _ _ _ _, fun k' f' runs' _ => ?_⟩, reportResult_busStuck_runs runs⟩
      have same : k = k' := Option.some.inj (runs.1.symm.trans runs'.1)
      rw [same]
    · refine ⟨s, ⟨.refl s, rfl, fun k f runs => absurd ⟨k, f, runs⟩ run⟩, ?_⟩
      exact reportResult_no_frame fun k f runs => run ⟨k, f, runs⟩
  · have stuck : engineStuck s = if s.engine.st = .idle then s else engineToIdle s := if_neg inFrame
    rw [stuck]
    by_cases idle : s.engine.st = .idle
    · exact .inl ⟨idle, if_pos idle⟩
    · exact .inr ⟨idle, s, ⟨.refl s, rfl, fun _ _ _ inside => absurd inside inFrame⟩, if_neg idle⟩

/-! ### The store after BUS_STUCK -/

theorem complete_store (k : Fin 32) (o : RequestOutcome) (failed : Bool) (s : State) :
    (complete k o failed s).store = { s.store with slots := tset s.store.slots k (doneSlot (slotOf s k) o failed) } := rfl

/-- What an attempt end reads and leaves of the request side. -/
structure SameAttempt (s t : State) : Prop where
  store : t.store = s.store
  sched : t.sched = s.sched
  port : t.port.state = s.port.state

theorem SameAttempt.slotOf {s t : State} (h : SameAttempt s t) (k : Fin 32) : slotOf t k = slotOf s k := by
  unfold Machine.slotOf
  rw [h.store]

theorem SameAttempt.timerOf {s t : State} (h : SameAttempt s t) (k : Fin 32) : timerOf t k = timerOf s k := by
  unfold Machine.timerOf
  rw [h.sched]

theorem SameAttempt.setSlot {s t : State} (h : SameAttempt s t) (k : Fin 32) (x : Slot) :
    SameAttempt (setSlot k x s) (setSlot k x t) :=
  ⟨by simp [Machine.setSlot, h.store], h.sched, h.port⟩

theorem SameAttempt.complete {s t : State} (h : SameAttempt s t) (k : Fin 32) (o : RequestOutcome) (failed : Bool) :
    (complete k o failed t).store = (complete k o failed s).store := by
  rw [complete_store, complete_store, h.slotOf, h.store]

theorem SameAttempt.returnOrExpire {s t : State} (h : SameAttempt s t) (k : Fin 32) :
    (returnOrExpire k t).store = (returnOrExpire k s).store := by
  unfold Machine.returnOrExpire
  rw [h.timerOf]
  split
  · exact h.complete ..
  · unfold returnWaiting
    rw [h.slotOf]
    exact (h.setSlot ..).store

theorem SameAttempt.busStuck {s t : State} (h : SameAttempt s t) (k : Fin 32) (won : Bool) :
    (attemptEnd k .busStuck won t).store = (attemptEnd k .busStuck won s).store := by
  rw [attemptEnd_table (by simp), attemptEnd_table (by simp)]
  unfold tableEnd
  dsimp only
  rw [h.slotOf, h.port, h.timerOf]
  split
  · exact h.complete ..
  split
  · exact h.complete ..
  split
  · split
    · exact (h.setSlot ..).returnOrExpire k
    · exact h.returnOrExpire k
  split
  · exact h.complete ..
  · exact h.complete ..

/-! ### STUCK (R21, R22, R176) -/

/-- The line once the Line Monitor reports it stuck. -/
def Line.stuck (l : Line) : Line := { l with state := .stuck, quietTb := 0, quietPart := 0, stuckDue := false }

theorem exec_lineStuck {s : State} (due : s.line.stuckDue = true) (notYet : s.line.state ≠ .stuck) :
    exec .lineStuck s = .next (portStuck (responderClose (s.setLine s.line.stuck))) :=
  congrArg Host.Outcome.next (if_pos (by simp [canStick, due, notYet]))

theorem portStuck_running {s : State} (h : s.port.state = .running) :
    portStuck s = setEvent .portFault (engineStuck (responderOff (setPortState .fault s))) := by
  simp only [portStuck, h]

theorem portStuck_stopping {s : State} (h : s.port.state = .stopping) : portStuck s = engineStuck s := by
  simp only [portStuck, h]

theorem portStuck_other {s : State} (running : s.port.state ≠ .running) (stopping : s.port.state ≠ .stopping) :
    portStuck s = s := by
  unfold portStuck
  split
  · contradiction
  · contradiction
  · rfl
  · rfl
  · rfl

theorem setEvent_flag (e : Event) (s : State) : (setEvent e s).events.flags.getLsbD (eventBit e) = true := by
  cases e <;> simp [setEvent, eventMask, eventBit]

end Sys2Proof.Machine

/-! The stuck line, alone and together with PORT_DISABLE (R21, R22, R98, R176, R177). -/

namespace Sys2Proof.Machine

/-! ### The engine at a stuck line, by the port (R98, R175) -/

theorem engineToIdle_store (s : State) : (engineToIdle s).store = s.store := by
  unfold engineToIdle
  dsimp only
  split <;> rfl

/-- Where the port is not STOPPING, nothing of the port and of the lines changes. -/
theorem engineStuck_stays {s : State} (port : s.port.state ≠ .stopping) :
    (engineStuck s).port = s.port ∧ (engineStuck s).line = s.line := by
  rcases engineStuck_cases s with ⟨-, same⟩ | ⟨-, u, ⟨frame, -, -⟩, enters⟩
  · rw [same]
    exact ⟨rfl, rfl⟩
  · have stays : u.port.state ≠ .stopping := by rw [frame.port]; exact port
    rw [enters, engineToIdle_stays stays]
    exact ⟨frame.port, frame.line⟩

/-- At a STOPPING port the engine's entry into IDLE ends the stop. -/
theorem engineStuck_stops {s : State} (port : s.port.state = .stopping) (busy : s.engine.st ≠ .idle) :
    (engineStuck s).port = { s.port with state := .disabled } ∧ (engineStuck s).line.state = .active ∧
      (engineStuck s).engine = s.engine.idled ∧ (engineStuck s).events.flags.getLsbD 8 = true := by
  rcases engineStuck_cases s with ⟨idle, -⟩ | ⟨-, u, ⟨frame, engine, -⟩, enters⟩
  · exact absurd idle busy
  · have stops : u.port.state = .stopping := by rw [frame.port]; exact port
    rw [enters, engineToIdle_stops stops, ← frame.port, ← engine]
    exact ⟨rfl, rfl, rfl, setEvent_flag .portStopped _⟩

theorem engineStuck_entersIdle (s : State) :
    (engineStuck s).engine.st = .idle ∧ (s.engine.st ≠ .idle → (engineStuck s).engine = s.engine.idled) := by
  rcases engineStuck_cases s with ⟨idle, same⟩ | ⟨-, u, ⟨-, engine, -⟩, enters⟩
  · rw [same]
    exact ⟨idle, fun busy => absurd idle busy⟩
  · rw [enters, engineToIdle_engine, engine]
    exact ⟨rfl, fun _ => rfl⟩

theorem engineStuck_idleStays {s : State} (idle : s.engine.st = .idle) : engineStuck s = s := by
  rcases engineStuck_cases s with ⟨-, same⟩ | ⟨busy, -⟩
  · exact same
  · exact absurd idle busy

/-- The request in flight ends BUS_STUCK. -/
theorem engineStuck_store {s t : State} {k : Fin 32} {f : Frame} (same : SameAttempt t s) (engine : s.engine = t.engine)
    (runs : Runs t k f) (inFrame : t.engine.st.inFrame = true) :
    (engineStuck s).store = (attemptEnd k .busStuck (t.engine.arb == .won) t).store := by
  have runs' : Runs s k f := runs.of_same (by rw [engine]) (by rw [engine]) same.store
  rcases engineStuck_cases s with ⟨idle, -⟩ | ⟨-, u, ⟨-, -, ends⟩, enters⟩
  · rw [engine] at idle
    simp [idle, EngineState.inFrame] at inFrame
  · rw [enters, engineToIdle_store, ends k f runs' (by rw [engine]; exact inFrame), engine, same.busStuck]

/-! ### The remote side at a stuck line -/

/-- The part once its Responder has closed what was open, the port in this state. -/
structure Closed (s : State) (p : Port) (v : State) : Prop where
  frame : ResponderFrame { s with line := s.line.stuck, port := p } v
  page : v.page = s.page

theorem closed_of_close (s : State) : Closed s s.port (responderClose (s.setLine s.line.stuck)) :=
  ⟨responderClose_frame _, responderClose_page _⟩

/-- At a RUNNING port the Responder is OFF before the engine acts. -/
def faultSide (s : State) : State := responderOff (setPortState .fault (responderClose (s.setLine s.line.stuck)))

theorem closed_faultSide (s : State) : Closed s { s.port with state := .fault } (faultSide s) := by
  obtain ⟨frame, page⟩ := closed_of_close s
  have off := responderOff_frame (setPortState .fault (responderClose (s.setLine s.line.stuck)))
  refine ⟨?_, (responderOff_page _).trans page⟩
  constructor
  · exact off.pending.trans frame.pending
  · exact off.host.trans frame.host
  · exact off.edit.trans frame.edit
  · exact off.cfg.trans frame.cfg
  · exact off.store.trans frame.store
  · exact off.sched.trans frame.sched
  · exact off.nodes.trans frame.nodes
  · exact off.engine.trans frame.engine
  · exact off.completions.trans frame.completions
  · exact off.line.trans frame.line
  · refine off.port.trans ?_
    show ({ (responderClose (s.setLine s.line.stuck)).port with state := .fault } : Port) = _
    rw [frame.port]

section
variable {s v : State} {p : Port}

theorem Closed.engine (h : Closed s p v) : v.engine = s.engine := h.frame.engine
theorem Closed.port (h : Closed s p v) : v.port = p := h.frame.port
theorem Closed.line (h : Closed s p v) : v.line = s.line.stuck := h.frame.line
theorem Closed.store (h : Closed s p v) : v.store = s.store := h.frame.store

theorem Closed.sameAttempt (h : Closed s p v) : SameAttempt { s with port := p } v :=
  ⟨h.frame.store, h.frame.sched, by rw [h.frame.port]⟩

/-- What neither the Responder nor the engine touches at a stuck line. -/
theorem Closed.rest (h : Closed s p v) {t : State} (frame : EngineFrame v t) :
    t.page = s.page ∧ t.pending = s.pending ∧ t.host = s.host ∧ t.cfg = s.cfg ∧ t.edit = s.edit :=
  ⟨frame.page.trans h.page, frame.pending.trans h.frame.pending, frame.host.trans h.frame.host,
    frame.cfg.trans h.frame.cfg, frame.edit.trans h.frame.edit⟩

/-- A request in flight, at a port that goes to this state. -/
theorem Closed.engineStuck_store (h : Closed s p v) {k : Fin 32} {f : Frame} (runs : Runs s k f)
    (inFrame : s.engine.st.inFrame = true) :
    (engineStuck v).store = (attemptEnd k .busStuck (s.engine.arb == .won) { s with port := p }).store :=
  Machine.engineStuck_store (t := { s with port := p }) h.sameAttempt h.engine runs inFrame

end

/-! ### LINE_STUCK -/

/-- The stuck report at a RUNNING port. -/
theorem lineStuck_running {s : State} (due : s.line.stuckDue = true) (notYet : s.line.state ≠ .stuck)
    (running : s.port.state = .running) :
    exec .lineStuck s = .next (setEvent .portFault (engineStuck (faultSide s))) := by
  rw [exec_lineStuck due notYet, portStuck_running (by rw [(closed_of_close s).port]; exact running)]
  rfl

theorem lineStuck_stopping {s : State} (due : s.line.stuckDue = true) (notYet : s.line.state ≠ .stuck)
    (stopping : s.port.state = .stopping) :
    exec .lineStuck s = .next (engineStuck (responderClose (s.setLine s.line.stuck))) := by
  rw [exec_lineStuck due notYet, portStuck_stopping (by rw [(closed_of_close s).port]; exact stopping)]

theorem lineStuck_other {s : State} (due : s.line.stuckDue = true) (notYet : s.line.state ≠ .stuck)
    (running : s.port.state ≠ .running) (stopping : s.port.state ≠ .stopping) :
    exec .lineStuck s = .next (responderClose (s.setLine s.line.stuck)) := by
  have port := (closed_of_close s).port
  rw [exec_lineStuck due notYet, portStuck_other (by rw [port]; exact running) (by rw [port]; exact stopping)]

/-- With the Responder OFF nothing is left to close. -/
theorem lineStuck_stopping_off {s : State} (due : s.line.stuckDue = true) (notYet : s.line.state ≠ .stuck)
    (stopping : s.port.state = .stopping) (off : s.responder.st = .off) :
    exec .lineStuck s = .next (engineStuck (s.setLine s.line.stuck)) := by
  rw [lineStuck_stopping due notYet stopping, responderClose_off (s := s.setLine s.line.stuck) off]

theorem lineStuck_other_off {s : State} (due : s.line.stuckDue = true) (notYet : s.line.state ≠ .stuck)
    (running : s.port.state ≠ .running) (stopping : s.port.state ≠ .stopping) (off : s.responder.st = .off) :
    exec .lineStuck s = .next (s.setLine s.line.stuck) := by
  rw [lineStuck_other due notYet running stopping, responderClose_off (s := s.setLine s.line.stuck) off]

theorem faultSide_off (s : State) : (faultSide s).responder.st = .off ∧ (faultSide s).responder.driveSbck = false ∧
    (faultSide s).responder.driveSbdt = false := by
  obtain ⟨off, sbck, sbdt, -⟩ := responderOff_released (setPortState .fault (responderClose (s.setLine s.line.stuck)))
  exact ⟨off, sbck, sbdt⟩

theorem faultSide_notStopping (s : State) : (faultSide s).port.state ≠ .stopping := by
  rw [(closed_faultSide s).port]
  simp

/-- An IDLE engine of a consistent port, and a Responder that is OFF, drive nothing (R78, R145). -/
theorem PortConsistent.drivesNothing {t : State} (h : PortConsistent t)
    (closed : t.port.state = .disabled ∨ t.port.state = .fault ∨ t.port.state = .recovering) :
    t.engine.st = .idle ∧ t.engine.driveSbck = false ∧ t.engine.driveSbdt = false ∧ t.responder.st = .off ∧
      t.responder.driveSbck = false ∧ t.responder.driveSbdt = false := by
  obtain ⟨⟨idled, idle, -⟩, ⟨off, released⟩, -⟩ := h
  have values := idled (idle closed)
  have isOff : t.responder.st = .off := off.mpr (by rcases closed with h | h | h <;> simp [h])
  obtain ⟨sbck, sbdt, -⟩ := released isOff
  exact ⟨idle closed, by rw [values]; rfl, by rw [values]; rfl, isOff, sbck, sbdt⟩

/-- The stuck report keeps the port's agreement with its blocks. -/
theorem lineStuck_consistent {s t : State} (next : exec .lineStuck s = .next t) (h : PortConsistent s) : PortConsistent t := by
  have stuck : stuckEvent s = t := Host.Outcome.next.inj next
  subst stuck
  unfold stuckEvent
  split
  · exact (becomeStuck_moves s).keep Move.portConsistent h
  · exact h

/-! ### PORT_DISABLE (R174) -/

theorem setHost_responderOff (s : State) (p : HostPort) : responderOff (s.setHost p) = (responderOff s).setHost p := by
  have ends : endAllFrames (s.setHost p) = (endAllFrames s).setHost p := by
    unfold endAllFrames
    dsimp only
    by_cases grants : (tfind Window.grants s.windows).isSome = true
    · rw [if_pos grants]
      exact if_pos grants
    · rw [if_neg grants]
      exact if_neg grants
  unfold responderOff giveUpFrame
  rw [ends]
  rfl

theorem portDisable_running {s : State} (opened : WriteOpen 0x004 s) (running : s.port.state = .running)
    (idle : s.engine.st = .idle) : exec .portDisable s = .next
      { setEvent .portStopped (responderOff (monitorDisabled (setPortState .disabled s)))
        with host := posted .ok 0 s.host } := by
  refine hostCommand_posted (body := portDisable) opened fun p => ?_
  unfold portDisable
  simp only [State.setHost_port, State.setHost_engine, running, idle, if_true]
  congr 1
  exact congrArg (setEvent .portStopped) (setHost_responderOff (monitorDisabled (setPortState .disabled s)) p)

theorem portDisable_busy {s : State} (opened : WriteOpen 0x004 s) (running : s.port.state = .running)
    (busy : s.engine.st ≠ .idle) : exec .portDisable s = .next
      { responderOff (setPortState .stopping s) with host := posted .started 0 s.host } := by
  refine hostCommand_posted (body := portDisable) opened fun p => ?_
  unfold portDisable
  simp only [State.setHost_port, State.setHost_engine, running, busy, if_false]
  congr 1
  exact setHost_responderOff (setPortState .stopping s) p

theorem portDisable_fault {s : State} (opened : WriteOpen 0x004 s) (fault : s.port.state = .fault) :
    exec .portDisable s = .next { lineRestart (setPortState .disabled s) with host := posted .ok 0 s.host } := by
  refine hostCommand_posted (body := portDisable) (t := lineRestart (setPortState .disabled s)) opened fun p => ?_
  unfold portDisable
  simp only [State.setHost_port, fault]
  rfl

/-! ### The report by the port's state (R176) -/

section
variable {s : State}

/-- What LINE_STUCK leaves at a RUNNING port. -/
theorem faultSide_stuck (s : State) :
    let t := setEvent .portFault (engineStuck (faultSide s))
    t.port = { s.port with state := .fault } ∧ t.line.state = .stuck ∧ t.responder.st = .off ∧
      t.responder.driveSbck = false ∧ t.responder.driveSbdt = false ∧ t.events.flags.getLsbD 5 = true ∧
      t.engine.st = .idle ∧ (s.engine.st ≠ .idle → t.engine = s.engine.idled) := by
  intro t
  have closed := closed_faultSide s
  obtain ⟨port, line⟩ := engineStuck_stays (faultSide_notStopping s)
  obtain ⟨idle, idled⟩ := engineStuck_entersIdle (faultSide s)
  have responder : t.responder = (faultSide s).responder := (engineStuck_frame (faultSide s)).responder
  rw [closed.engine] at idled
  rw [responder]
  refine ⟨port.trans closed.port, ?_, (faultSide_off s).1, (faultSide_off s).2.1, (faultSide_off s).2.2,
    setEvent_flag .portFault _, idle, idled⟩
  show (engineStuck (faultSide s)).line.state = .stuck
  rw [line, closed.line]
  rfl

theorem faultSide_store {k : Fin 32} {f : Frame} (runs : Runs s k f) (inFrame : s.engine.st.inFrame = true) :
    (setEvent .portFault (engineStuck (faultSide s))).store =
      (attemptEnd k .busStuck (s.engine.arb == .won) { s with port := { s.port with state := .fault } }).store :=
  (closed_faultSide s).engineStuck_store runs inFrame

end

/-- PORT_DISABLE with the engine IDLE, a stuck report being due. -/
theorem portDisable_disabled {s : State} (opened : WriteOpen 0x004 s) (running : s.port.state = .running)
    (idle : s.engine.st = .idle) (due : s.line.stuckDue = true) :
    ∃ t, exec .portDisable s = .next t ∧ t.port.state = .disabled ∧ t.host.last = some (.ok, 0) ∧
      t.events.flags.getLsbD 8 = true ∧ t.line.stuckDue = true ∧ t.line.state = .active ∧ t.responder.st = .off ∧
      t.store = s.store := by
  have frame := responderOff_frame (monitorDisabled (setPortState .disabled s))
  refine ⟨_, portDisable_running opened running idle, ?_, rfl, setEvent_flag .portStopped _, ?_, ?_,
    (responderOff_released _).1, frame.store⟩
  · exact congrArg Port.state frame.port
  · exact (congrArg Line.stuckDue frame.line).trans due
  · exact congrArg Line.state frame.line

/-- PORT_DISABLE with a frame in progress. -/
theorem portDisable_stopping {s : State} (opened : WriteOpen 0x004 s) (running : s.port.state = .running)
    (busy : s.engine.st ≠ .idle) :
    ∃ t, exec .portDisable s = .next t ∧ t.port.state = .stopping ∧ t.host.last = some (.started, 0) ∧ t.line = s.line ∧
      t.engine = s.engine ∧ t.responder.st = .off ∧
      SameAttempt { s with port := { s.port with state := .stopping } } t := by
  have frame := responderOff_frame (setPortState .stopping s)
  have port := congrArg Port.state frame.port
  exact ⟨_, portDisable_busy opened running busy, port, rfl, frame.line, frame.engine, (responderOff_released _).1,
    ⟨frame.store, frame.sched, port⟩⟩

/-- Settles O35: the report by the port's state, and the two orders of a report and a PORT_DISABLE. -/
theorem lineStuck : Obligations.LineStuck := by
  refine ⟨fun s due notYet => ?_, fun s opened running due notYet => ⟨?_, ?_⟩⟩
  · have closed := closed_of_close s
    by_cases running : s.port.state = .running
    · have next := lineStuck_running due notYet running
      have left := faultSide_stuck s
      refine ⟨_, next, fun _ => left, fun stopping => ?_, fun other => absurd running other,
        fun k f _ runs inFrame => faultSide_store runs inFrame, fun h => ?_, ?_⟩
      · rw [running] at stopping
        cases stopping
      · exact (lineStuck_consistent next h).drivesNothing (.inr (.inl (by rw [left.1])))
      · exact (closed_faultSide s).rest (t := engineStuck (faultSide s)) (engineStuck_frame _)
    · by_cases stopping : s.port.state = .stopping
      · have next := lineStuck_stopping due notYet stopping
        have left (busy : s.engine.st ≠ .idle) := engineStuck_stops (s := responderClose (s.setLine s.line.stuck))
          (by rw [closed.port]; exact stopping) (by rw [closed.engine]; exact busy)
        rw [closed.port, closed.engine] at left
        refine ⟨_, next, fun h => absurd h running, fun _ => left, fun _ other => absurd stopping other,
          fun _ _ h => absurd h running, fun h => ?_, closed.rest (engineStuck_frame _)⟩
        obtain ⟨port, -⟩ := left (h.1.2.2 stopping)
        exact (lineStuck_consistent next h).drivesNothing (.inl (by rw [port]))
      · have next := lineStuck_other due notYet running stopping
        refine ⟨_, next, fun h => absurd h running, fun h => absurd h stopping,
          fun _ _ => ⟨closed.port, by rw [closed.line]; rfl, closed.engine, closed.store⟩, fun _ _ h => absurd h running,
          fun h => ?_, closed.rest (.refl _)⟩
        refine (lineStuck_consistent next h).drivesNothing ?_
        rw [closed.port]
        cases state : s.port.state <;> simp_all
  · by_cases idle : s.engine.st = .idle
    · obtain ⟨t, next, port, last, flag, due', state, off, store⟩ := portDisable_disabled opened running idle due
      have stuck := lineStuck_other_off due' (by simp [state]) (by simp [port]) (by simp [port]) off
      exact ⟨t, next, fun _ => ⟨port, last, flag, _, stuck, port, rfl, rfl, store⟩, fun busy => absurd idle busy⟩
    · obtain ⟨t, next, port, last, line, engine, off, same⟩ := portDisable_stopping opened running idle
      have stuck := lineStuck_stopping_off (by rw [line]; exact due) (by rw [line]; exact notYet) port off
      obtain ⟨disabled, -, -, flag⟩ := engineStuck_stops (s := t.setLine t.line.stuck) port
        (by rw [State.setLine_engine, engine]; exact idle)
      refine ⟨t, next, fun is => absurd is idle, fun _ => ⟨port, last, _, stuck, by rw [disabled], flag,
        fun k f runs inFrame => ?_⟩⟩
      exact engineStuck_store (s := t.setLine t.line.stuck) (t := { s with port := { s.port with state := .stopping } })
        ⟨same.store, same.sched, same.port⟩ engine runs inFrame
  · have left := faultSide_stuck s
    have closed := closed_faultSide s
    have host : (setEvent .portFault (engineStuck (faultSide s))).host = s.host :=
      (closed.rest (engineStuck_frame _)).2.2.1
    refine ⟨_, lineStuck_running due notYet running, by rw [left.1], left.2.2.2.2.2.1, fun idle => ?_,
      fun k f runs inFrame => faultSide_store runs inFrame, _, portDisable_fault ?_ (by rw [left.1]), rfl, rfl, rfl, rfl⟩
    · show (engineStuck (faultSide s)).store = s.store
      rw [engineStuck_idleStays (by rw [closed.engine]; exact idle), closed.store]
    · unfold WriteOpen
      rw [host]
      exact opened

end Sys2Proof.Machine

/-! The check register and the header at a follower (R9, R10, R13 to R15, R80, R133). -/

namespace Sys2Proof.Machine

/-! ### The check register (R14) -/

/-- A bit that equals the register's top bit shifts it out. -/
theorem crcStep_top (c : Byte) : crcStep c c.msb = c <<< 1 := if_neg (by simp)

/-- The register after the first n of its own bits is what is left of it. -/
theorem crcStep_ownBits (r : Byte) (n : Nat) : (List.range n).foldl (fun c j => crcStep c (byteBit r j)) r = r <<< n := by
  induction n with
  | zero => simp
  | succ n ih =>
    have top : byteBit r n = (r <<< n).msb := by
      unfold byteBit
      rw [BitVec.msb_eq_getMsbD_zero, BitVec.getMsbD_shiftLeft, Nat.zero_add]
    rw [List.range_succ, List.foldl_append, ih]
    show crcStep (r <<< n) (byteBit r n) = _
    rw [top, crcStep_top, ← BitVec.shiftLeft_add]

/-! ### Bits taken one after another (R13) -/

/-- A register of any width that takes a bit in at its least significant end: the shape of `shiftIn` and of `headerShift`. -/
def takeBit {w : Nat} (c : BitVec w) (b : Bool) : BitVec w := (c <<< 1) ||| (if b then 1 else 0)

theorem shiftIn_eq_takeBit : shiftIn = takeBit := rfl
theorem headerShift_eq_takeBit : headerShift = takeBit := rfl

/-- One more bit of a value, most significant first. -/
theorem takeBit_ushiftRight {w : Nat} (r : BitVec w) {n : Nat} (below : n < w) :
    takeBit (r >>> (w - n)) (r.getMsbD n) = r >>> (w - (n + 1)) := by
  have bit (i : Nat) : (if r.getMsbD n then (1 : BitVec w) else 0).getLsbD i = (decide (i = 0) && r.getMsbD n) := by
    cases r.getMsbD n
    · simp
    · simp [BitVec.getLsbD_one, show 0 < w by omega]
  refine BitVec.eq_of_getLsbD_eq fun i inside => ?_
  unfold takeBit
  rw [BitVec.getLsbD_or, bit, BitVec.getLsbD_shiftLeft, BitVec.getLsbD_ushiftRight, BitVec.getLsbD_ushiftRight]
  cases i with
  | zero => simp [BitVec.getMsbD, below, show w - 1 - n = w - (n + 1) by omega]
  | succ i => simp [inside, show w - n + i = w - (n + 1) + (i + 1) by omega]

/-- A register that takes the first n bits of a value, most significant first. -/
theorem takeBits_eq {w : Nat} (r : BitVec w) {n : Nat} (inside : n ≤ w) :
    (List.range n).foldl (fun c j => takeBit c (r.getMsbD j)) 0 = r >>> (w - n) := by
  induction n with
  | zero =>
    have none : r >>> w = 0#w := BitVec.ushiftRight_eq_zero (Nat.le_refl w)
    simp [none]
  | succ n ih =>
    rw [List.range_succ, List.foldl_append, ih (by omega)]
    exact takeBit_ushiftRight r inside

/-- All of them give the value. -/
theorem takeBits_all {w : Nat} (r : BitVec w) :
    (List.range w).foldl (fun c j => takeBit c (r.getMsbD j)) 0 = r := by
  rw [takeBits_eq r (Nat.le_refl w), Nat.sub_self, BitVec.ushiftRight_zero]

/-! ### The header's fields (R9, R10) -/

theorem kindOfBits_kindBits (k : Kind) : kindOfBits (kindBits k) = some k := by
  cases k <;> rfl

section
variable (prio : BitVec 4) (own : Byte) (f : Frame)

theorem headerPrio_headerOf : headerPrio (headerOf prio own f) = prio := by
  unfold headerPrio headerOf
  rw [BitVec.extractLsb'_append_eq_of_le (by decide), BitVec.extractLsb'_append_eq_of_le (by decide),
    BitVec.extractLsb'_append_eq_of_le (by decide), BitVec.extractLsb'_append_eq_of_le (by decide),
    BitVec.extractLsb'_append_eq_of_le (by decide)]
  exact BitVec.extractLsb'_eq_self

theorem headerDest_headerOf : headerDest (headerOf prio own f) = f.dest := by
  unfold headerDest headerOf
  rw [BitVec.extractLsb'_append_eq_of_le (by decide), BitVec.extractLsb'_append_eq_of_le (by decide),
    BitVec.extractLsb'_append_eq_of_le (by decide), BitVec.extractLsb'_append_eq_of_le (by decide)]
  exact BitVec.extractLsb'_append_eq_right

theorem headerSource_headerOf : headerSource (headerOf prio own f) = own := by
  unfold headerSource headerOf
  rw [BitVec.extractLsb'_append_eq_of_le (by decide), BitVec.extractLsb'_append_eq_of_le (by decide),
    BitVec.extractLsb'_append_eq_of_le (by decide)]
  exact BitVec.extractLsb'_append_eq_right

theorem headerKind_headerOf : headerKind (headerOf prio own f) = some f.kind := by
  unfold headerKind headerOf
  rw [BitVec.extractLsb'_append_eq_of_le (by decide), BitVec.extractLsb'_append_eq_of_le (by decide)]
  exact (congrArg kindOfBits BitVec.extractLsb'_append_eq_right).trans (kindOfBits_kindBits f.kind)

theorem headerOffset_headerOf : headerOffset (headerOf prio own f) = f.offset.toNat := by
  unfold headerOffset headerOf
  rw [BitVec.extractLsb'_append_eq_of_le (by decide)]
  exact congrArg BitVec.toNat BitVec.extractLsb'_append_eq_right

theorem headerLength_headerOf (body : f.kind ≠ .probe) (lower : 1 ≤ f.length) (upper : f.length ≤ 32) :
    headerLength (headerOf prio own f) = f.length := by
  have bits : lengthBits f = BitVec.ofNat 5 (f.length - 1) := by
    unfold lengthBits
    split
    · contradiction
    · rfl
  unfold headerLength headerOf
  rw [BitVec.extractLsb'_append_eq_right, bits, BitVec.toNat_ofNat, Nat.mod_eq_of_lt (by omega)]
  omega

end

/-- Settles O36: the registers by the bits that they have taken, the fields by their places. -/
theorem checkAndHeaderRoundTrip : Obligations.CheckAndHeaderRoundTrip := by
  refine ⟨fun r => ?_, fun r => ?_, fun prio own f lengths => ?_⟩
  · rw [crcStep_ownBits]
    exact BitVec.shiftLeft_eq_zero (by decide)
  · rw [shiftIn_eq_takeBit]
    exact takeBits_all r
  · intro sent h
    have taken : h = sent := by
      unfold h
      rw [headerShift_eq_takeBit]
      exact takeBits_all sent
    rw [taken]
    exact ⟨headerPrio_headerOf .., headerDest_headerOf .., headerSource_headerOf .., headerKind_headerOf ..,
      headerOffset_headerOf .., fun body => headerLength_headerOf prio own f body (lengths body).1 (lengths body).2⟩

end Sys2Proof.Machine

/-! Frames given up, and conditions at the Responder (R5, R8, R131, R132, R144 to R146, R152, R161, R162). -/

namespace Sys2Proof.Machine

/-! ### Giving a frame up (R144, R146) -/

theorem grants_isSome_iff (s : State) : (tfind Window.grants s.windows).isSome = true ↔
    ∃ i, (windowOf s i).inFrame = true ∧ (windowOf s i).hold = .pending := by
  rw [tfind_isSome]
  simp only [Window.grants, Bool.and_eq_true, beq_iff_eq]
  rfl

theorem endAllFrames_eq (s : State) : endAllFrames s =
    { s with
      windows := tmap Window.frameEnd s.windows
      events := { s.events with
        flags := if (tfind Window.grants s.windows).isSome = true then s.events.flags ||| 0x004 else s.events.flags } } := by
  unfold endAllFrames
  dsimp only
  split
  · rfl
  · rfl

/-- Settles O37: the windows' frames end by discard, and the Responder's side is cleared. -/
theorem framesGivenUp : Obligations.FramesGivenUp := by
  refine ⟨fun s => ?_, fun s => rfl⟩
  unfold giveUpFrame
  dsimp only
  rw [endAllFrames_eq]
  simp only [grants_isSome_iff]
  rfl

/-! ### Conditions at the Responder (R132) -/

/-- A Start that is nothing to the engine. -/
theorem exec_busStart {s : State} (phase : s.engine.phase = .none ∨ s.engine.phase = .startDue) (sbck : s.line.sbck = true)
    (sbdt : s.line.sbdt = true) : exec .busStart s = .next (responderStart (sbdtLow s)) := by
  refine congrArg Host.Outcome.next ?_
  rw [startEvent_high sbck sbdt, engineCondition_idle (s := sbdtLow s) phase]

/-- A Stop that is nothing to the engine. -/
theorem exec_busStop {s : State} (phase : s.engine.phase = .none ∨ s.engine.phase = .startDue)
    (recovery : s.port.recovery = .none) (sbck : s.line.sbck = true) (sbdt : s.line.sbdt = false)
    (released : ownSbdt s = false) (notQuiet : s.line.state ≠ .quiet) :
    exec .busStop s = .next (responderClose (sbdtHigh s)) := by
  have notOwn : (sbdtHigh s).engine.phase ≠ .stopWait := by
    show s.engine.phase ≠ .stopWait
    rcases phase with idle | due <;> simp [*]
  refine congrArg Host.Outcome.next ?_
  rw [stopEvent_settled sbck sbdt released recovery notQuiet, engineStopSeen_condition notOwn,
    engineCondition_idle (s := sbdtHigh s) phase]

theorem midFrame_not {r : Responder} (outside : r.pos = .between ∨ (r.pos = .boundary ∧ r.high ≠ .lastBit)) :
    midFrame r = false := by
  rcases outside with pos | ⟨pos, notLast⟩ <;> simp [midFrame, *]

/-- The Responder at a Stop outside a frame. -/
theorem responderClose_outside {s : State} (on : s.responder.st ≠ .off) (boundary : s.responder.pos = .boundary)
    (notLast : s.responder.high ≠ .lastBit) : responderClose s = responderListen s := by
  unfold responderClose breakFrame
  rw [if_neg (by simp [on, boundary]), if_neg (by simp [midFrame_not (.inr ⟨boundary, notLast⟩)])]

theorem responderClose_inside {s : State} (on : s.responder.st ≠ .off) (inside : midFrame s.responder = true) :
    responderClose s = responderListen (giveUpFrame s) := by
  have notBetween : s.responder.pos ≠ .between := by
    rcases (midFrame_iff _).mp inside with ⟨n, pos⟩ | ⟨pos, -⟩ <;> simp [pos]
  unfold responderClose breakFrame
  rw [if_neg (by simp [on, notBetween]), if_pos inside]

/-- Settles O38: by the Responder's place at the condition. -/
theorem conditionsAtResponder : Obligations.ConditionsAtResponder := by
  intro s phase recovery low high opened closed
  refine ⟨fun sbck sbdt => ?start, fun sbck sbdt released notQuiet => ?stop⟩
  case start =>
    have start : exec .busStart s = .next (responderStart low) := exec_busStart phase sbck sbdt
    rw [start]
    refine ⟨fun off => ?_, fun on => ⟨fun outside => ?_, fun n inside => ?_⟩⟩
    · rw [responderStart_off (s := low) off]
    · rw [responderStart_outside (s := low) on (midFrame_not outside)]
      rfl
    · rw [responderStart_inside (s := low) on ((midFrame_iff _).mpr (inside.imp_left fun pos => ⟨n, pos⟩))]
      rfl
  case stop =>
    have stop : exec .busStop s = .next (responderClose high) := exec_busStop phase recovery sbck sbdt released notQuiet
    rw [stop]
    refine ⟨fun nothing => congrArg Host.Outcome.next (if_pos nothing), fun on => ⟨fun boundary notLast => ?_, fun n inside => ?_⟩⟩
    · rw [responderClose_outside (s := high) on boundary notLast]
      rfl
    · rw [responderClose_inside (s := high) on ((midFrame_iff _).mpr (inside.imp_left fun pos => ⟨n, pos⟩))]
      rfl

end Sys2Proof.Machine

/-! The claim decision (R133 to R136, R138, R139, R141, R155 to R157, R162). -/

namespace Sys2Proof.Machine

/-! ### The match (R135) -/

/-- The destination and the source of a frame that a window can take. -/
def addressesValid (h : BitVec 35) : Prop :=
  headerDest h ≠ 0 ∧ headerDest h ≠ 255 ∧ headerSource h ≠ 0 ∧ headerSource h ≠ 255

theorem matchWindow_invalid {s : State} (invalid : ¬ addressesValid s.responder.header) : matchWindow s = none := by
  unfold matchWindow
  refine if_pos (Classical.byContradiction fun other => invalid ?_)
  rwa [not_or, not_or, not_or] at other

theorem matchWindow_valid {s : State} (valid : addressesValid s.responder.header) : matchWindow s =
    tfind (fun w => w.enabled && w.node == headerDest s.responder.header) s.windows := by
  unfold matchWindow
  obtain ⟨dest0, dest255, source0, source255⟩ := valid
  exact if_neg (not_or.mpr ⟨dest0, not_or.mpr ⟨dest255, not_or.mpr ⟨source0, source255⟩⟩⟩)

theorem matchWindow_nobody {s : State}
    (nobody : ∀ i, (windowOf s i).enabled = true → (windowOf s i).node ≠ headerDest s.responder.header) :
    matchWindow s = none := by
  by_cases valid : addressesValid s.responder.header
  · rw [matchWindow_valid valid, tfind_eq_none]
    intro i
    have other := nobody i
    unfold windowOf at other
    cases enabled : (tget s.windows i).enabled with
    | false => rfl
    | true => simpa [enabled] using other
  · exact matchWindow_invalid valid

/-- With the enabled windows' nodes distinct, the match is the window of that node. -/
theorem matchWindow_found {s : State} {i : Fin 8} (distinct : WindowsDistinct s) (valid : addressesValid s.responder.header)
    (enabled : (windowOf s i).enabled = true) (node : (windowOf s i).node = headerDest s.responder.header) :
    matchWindow s = some i := by
  have here : ((windowOf s i).enabled && (windowOf s i).node == headerDest s.responder.header) = true := by
    simp [enabled, node]
  obtain ⟨j, found⟩ := Option.isSome_iff_exists.mp
    ((tfind_isSome (v := s.windows) (p := fun w => w.enabled && w.node == headerDest s.responder.header)).mpr ⟨i, here⟩)
  have there := tfind_some found
  simp only [Bool.and_eq_true, beq_iff_eq] at there
  obtain ⟨enabled', node'⟩ := there
  rw [matchWindow_valid valid, found, distinct.2 j i enabled' enabled (node'.trans node.symm)]

/-! ### The claim table (R136) -/

theorem reasonFullFor_eq (s : State) (i : Fin 8) (k : Option Kind) : reasonFullFor s i k =
    decide (k = some .write ∧ (windowOf s i).notify = true ∧ notifyLoad s.hold = 16) := by
  rw [Bool.eq_iff_iff]
  simp [reasonFullFor, Config.notifyDepth, and_assoc]

theorem reasonHeldFor_eq (s : State) (i : Fin 8) : reasonHeldFor s i = decide ((windowOf s i).hold = .held) := rfl

theorem accessRefuses_iff (a : Access) (k : Kind) :
    accessRefuses a k = true ↔ (k = .read ∧ a = .writeOnly) ∨ (k = .write ∧ a = .readOnly) := by
  cases a <;> cases k <;> decide

/-- A READ or WRITE that the window's access or size refuses. -/
def bodyRefused (s : State) (i : Fin 8) (k : Kind) : Prop :=
  accessRefuses (windowOf s i).access k = true ∨
    (windowOf s i).size.toNat < headerOffset s.responder.header + frameLen s

/-- A hold reason applies to a READ or WRITE. -/
def bodyHeld (s : State) (i : Fin 8) (k : Kind) : Bool := reasonHeldFor s i || reasonFullFor s i (some k)

section
variable {s : State} {i : Fin 8} {k : Kind}

theorem claimTable_noKind (kind : frameKind s = none) : claimTable s i = .claim .refuse := by
  simp only [claimTable, kind]

theorem claimTable_probe (kind : frameKind s = some .probe) : claimTable s i = .claim .proceed := by
  simp only [claimTable, kind]

/-- The rows of a READ or WRITE. -/
theorem claimTable_body (kind : frameKind s = some k) (body : k ≠ .probe) : claimTable s i =
    if accessRefuses (windowOf s i).access k then .claim .refuse
    else if (windowOf s i).size.toNat < headerOffset s.responder.header + frameLen s then .claim .refuse
    else if reasonHeldFor s i || reasonFullFor s i (some k) then
      (if (windowOf s i).contention = .answerBusy then .answerBusy else .stall)
    else .begin := by
  unfold claimTable
  cases k with
  | probe => exact absurd rfl body
  | _ => simp only [kind]

theorem claimTable_refused (kind : frameKind s = some k) (body : k ≠ .probe) (refused : bodyRefused s i k) :
    claimTable s i = .claim .refuse := by
  rw [claimTable_body kind body]
  rcases refused with access | size
  · rw [if_pos access]
  · rw [if_pos size, ite_self]

/-- A frame that is not refused: the hold reasons decide. -/
theorem claimTable_taken (kind : frameKind s = some k) (body : k ≠ .probe) (taken : ¬ bodyRefused s i k) :
    claimTable s i = if bodyHeld s i k then (if (windowOf s i).contention = .answerBusy then .answerBusy else .stall)
      else .begin := by
  unfold bodyRefused at taken
  rw [claimTable_body kind body, if_neg (fun access => taken (.inl access)), if_neg (fun size => taken (.inr size))]
  rfl

theorem claimTable_busy (kind : frameKind s = some k) (body : k ≠ .probe) (taken : ¬ bodyRefused s i k)
    (held : bodyHeld s i k = true) (answers : (windowOf s i).contention = .answerBusy) : claimTable s i = .answerBusy := by
  rw [claimTable_taken kind body taken, if_pos held, if_pos answers]

theorem claimTable_stall (kind : frameKind s = some k) (body : k ≠ .probe) (taken : ¬ bodyRefused s i k)
    (held : bodyHeld s i k = true) (stalls : (windowOf s i).contention = .stall) : claimTable s i = .stall := by
  rw [claimTable_taken kind body taken, if_pos held, if_neg (by simp [stalls])]

theorem claimTable_begins (kind : frameKind s = some k) (body : k ≠ .probe) (taken : ¬ bodyRefused s i k)
    (free : ¬ bodyHeld s i k = true) : claimTable s i = .begin := by
  rw [claimTable_taken kind body taken, if_neg free]

end

/-! ### The decision carried out -/

/-- The matched window is the Responder's. -/
def withWindow (i : Fin 8) (s : State) : State := s.setResponder { s.responder with window := some i }

/-- What each decision does. -/
def carriesOut (i : Fin 8) (s : State) : Decision → State
  | .claim c => enterClaiming c s
  | .begin => enterClaiming .proceed (beginFrame i s)
  | .answerBusy => enterClaiming .busy (showReasons i s)
  | .stall => beginStall i s

theorem applyDecision_of {s : State} {i : Fin 8} {d : Decision} (row : claimTable (withWindow i s) i = d) :
    applyDecision i s = carriesOut i (withWindow i s) d := by
  unfold withWindow at row
  unfold applyDecision
  dsimp only
  rw [row]
  cases d <;> rfl

theorem clashCheck_eq (s : State) : clashCheck s =
    { s with events := { s.events with
      flags := if headerSource s.responder.header = s.cfg.ownAddr then s.events.flags ||| 0x200 else s.events.flags } } := by
  unfold clashCheck
  split
  · rfl
  · rfl

theorem engineDriving_follower {s : State} (st : s.engine.st = .idle ∨ s.engine.st = .released) : engineDriving s = false := by
  rcases st with st | st <;> simp only [engineDriving, st]

theorem decideClaim_passive {s : State} (follows : engineDriving s = false) (none : matchWindow (clashCheck s) = none) :
    decideClaim s = enterPassive (clashCheck s) := by
  unfold decideClaim
  rw [if_neg (by simp [follows])]
  simp only [none]

theorem decideClaim_match {s : State} {i : Fin 8} (follows : engineDriving s = false)
    (found : matchWindow (clashCheck s) = some i) : decideClaim s = applyDecision i (clashCheck s) := by
  unfold decideClaim
  rw [if_neg (by simp [follows])]
  simp only [found]

/-- The part with the 35th header bit taken. -/
def headerTaken (b : Bool) (u : State) : State :=
  { u with
    line := { u.line with sbck := true, stuckMs := 0, stuckDue := false }
    responder := { u.responder with
      pos := .within 35, header := headerShift u.responder.header b, crc := crcStep u.responder.crc b, check := 0,
      verified := false } }

/-- The rise of bit 35. -/
theorem exec_claimDecision {s : State} {b : Bool} (comes : RiseComes (responderCountEnd s) b)
    (phase : (responderCountEnd s).engine.phase = .none)
    (st : (responderCountEnd s).engine.st = .idle ∨ (responderCountEnd s).engine.st = .released)
    (decoding : (responderCountEnd s).responder.st = .decoding) (pos : (responderCountEnd s).responder.pos = .within 34) :
    exec .claimDecision s = .next (decideClaim (headerTaken b (responderCountEnd s))) := by
  have here : decisionAtRise (responderCountEnd s) = true := by
    simp [decisionAtRise, responderAt, decoding, pos, engineDriving_follower st]
  refine congrArg Host.Outcome.next ?_
  show riseCase decisionAtRise s = _
  rw [riseCase_comes comes here, engineRise_none b phase, responderRise_decoding (s := sbckHigh _) decoding pos]
  rfl

/-- Settles O39: the match, then the rows of the claim table. -/
theorem claimDecision : Obligations.ClaimDecision := by
  intro s b u h v valid comes phase st decoding pos distinct
  have decides := exec_claimDecision comes phase st decoding pos
  have clash : clashCheck (headerTaken b u) = v := clashCheck_eq _
  have follows : engineDriving (headerTaken b u) = false := engineDriving_follower st
  change exec .claimDecision s = .next (decideClaim (headerTaken b u)) at decides
  clear_value u
  refine ⟨fun nobody => ?_, fun i valid enabled node => ?_⟩
  · have none : matchWindow v = none := by
      rcases nobody with invalid | nobody
      · exact matchWindow_invalid (s := v) invalid
      · exact matchWindow_nobody (s := v) nobody
    rw [decides, decideClaim_passive follows (by rw [clash]; exact none), clash]
    rfl
  · intro w held full claims shown
    have found : matchWindow v = some i := matchWindow_found (s := v) distinct valid enabled node
    have taken : exec .claimDecision s = .next (applyDecision i v) := by
      rw [decides, decideClaim_match follows (by rw [clash]; exact found), clash]
    have kindOf : frameKind (withWindow i v) = headerKind h := rfl
    have reasons {k : Kind} (kind : headerKind h = some k) : bodyHeld (withWindow i v) i k = true ↔ held ∨ full := by
      unfold bodyHeld
      rw [reasonFullFor_eq, reasonHeldFor_eq, Bool.or_eq_true, decide_eq_true_eq, decide_eq_true_eq, ← kind]
      rfl
    have shows : showReasons i (withWindow i v) = { withWindow i v with hold := shown } := by
      unfold showReasons
      rw [reasonFullFor_eq, reasonHeldFor_eq]
      rfl
    have refuses {k : Kind} (kind : headerKind h = some k) : bodyRefused (withWindow i v) i k ↔
        (headerKind h = some .read ∧ w.access = .writeOnly) ∨ (headerKind h = some .write ∧ w.access = .readOnly) ∨
          w.size.toNat < headerOffset h + headerLength h := by
      unfold bodyRefused
      rw [accessRefuses_iff, or_assoc, kind, Option.some.injEq, Option.some.injEq]
      rfl
    rw [taken]
    refine ⟨fun kind => ?_, fun kind => ?_, fun kinds => ?_⟩
    · rw [applyDecision_of (claimTable_noKind (kindOf.trans kind))]
      rfl
    · rw [applyDecision_of (claimTable_probe (kindOf.trans kind))]
      rfl
    · intro refused
      obtain ⟨k, kind, body⟩ : ∃ k, headerKind h = some k ∧ k ≠ .probe := by
        rcases kinds with kind | kind
        · exact ⟨_, kind, by simp⟩
        · exact ⟨_, kind, by simp⟩
      have goes (isNot : ¬ refused) : ¬ bodyRefused (withWindow i v) i k := fun r => isNot ((refuses kind).mp r)
      refine ⟨fun is => ?_, fun isNot reason answers => ?_, fun isNot reason stalls => ?_, fun isNot noHold noFull read => ?_,
        fun isNot noHold noFull write => ?_⟩
      · rw [applyDecision_of (claimTable_refused (kindOf.trans kind) body ((refuses kind).mpr is))]
        rfl
      · rw [applyDecision_of (claimTable_busy (kindOf.trans kind) body (goes isNot) ((reasons kind).mpr reason) answers)]
        unfold carriesOut
        dsimp only
        rw [shows]
        rfl
      · rw [applyDecision_of (claimTable_stall (kindOf.trans kind) body (goes isNot) ((reasons kind).mpr reason) stalls)]
        unfold carriesOut beginStall
        dsimp only
        rw [shows]
        rfl
      · rw [applyDecision_of (claimTable_begins (kindOf.trans kind) body (goes isNot)
          fun reason => ((reasons kind).mp reason).elim noHold noFull)]
        unfold carriesOut beginFrame
        simp only [kindOf, read]
        rfl
      · rw [applyDecision_of (claimTable_begins (kindOf.trans kind) body (goes isNot)
          fun reason => ((reasons kind).mp reason).elim noHold noFull)]
        unfold carriesOut beginFrame
        simp only [kindOf, write]
        rfl

end Sys2Proof.Machine

/-! The Responder's claim, the READ's response slot and a WRITE whose check fails (R12, R15, R137, R140, R143, R146, R152, R156). -/

namespace Sys2Proof.Machine

/-! ### The end of a window's frame (R146, R152) -/

/-- An in-frame window whose frame ends: a PENDING hold is granted. -/
theorem endWindowFrame_inFrame {s : State} {i : Fin 8} (inFrame : (windowOf s i).inFrame = true) : endWindowFrame i s =
    { s with
      windows := tset s.windows i { windowOf s i with
        inFrame := false, hold := if (windowOf s i).hold = .pending then .held else (windowOf s i).hold }
      events := { s.events with
        flags := if (windowOf s i).hold = .pending then s.events.flags ||| 0x004 else s.events.flags } } := by
  have ends : (windowOf s i).frameEnd = { windowOf s i with
      inFrame := false, hold := if (windowOf s i).hold = .pending then .held else (windowOf s i).hold } := if_pos inFrame
  unfold endWindowFrame
  dsimp only
  rw [ends]
  by_cases pending : (windowOf s i).hold = .pending
  · rw [if_pos (by simp [Window.grants, inFrame, pending]), if_pos pending, if_pos pending]
    rfl
  · rw [if_neg (by simp [Window.grants, pending]), if_neg pending, if_neg pending]
    rfl

theorem dropFrame_inFrame {s : State} {i : Fin 8} (own : s.responder.window = some i)
    (inFrame : (windowOf s i).inFrame = true) : dropFrame s = endWindowFrame i
      { s with
        responder := { s.responder with
          sendBuf := Vector.replicate 32 0, intake := Vector.replicate 32 0, verified := false }
        hold := { s.hold with reservation := false } } := by
  unfold dropFrame
  simp only [own]
  exact if_pos inFrame

/-! ### The claim slot at the Responder (R137) -/

theorem frameGoesOn_iff (k : Option Kind) (c : ClaimCode) :
    frameGoesOn k c = true ↔ c = .proceed ∧ (k = some .read ∨ k = some .write) := by
  cases k with
  | none => simp [frameGoesOn]
  | some k => cases k <;> cases c <;> decide

theorem responderRise_claimSecond {s : State} {b : Bool} (st : s.responder.st = .claiming)
    (pos : s.responder.pos = .within 36) : responderRise b s =
      claimTaken (claimOfBits s.responder.claimFirst b) (s.setResponder { s.responder with pos := .within 37 }) := by
  simp only [responderRise, pos, st]
  rfl

section
variable {s : State} {c : ClaimCode}

theorem claimTaken_own {k : Kind} (proceeds : c = .proceed) (own : s.responder.code = .proceed) (kind : frameKind s = some k)
    (body : k ≠ .probe) : claimTaken c s =
      { s with
        hold := s.hold.noReasons
        responder := { s.responder with goesOn := true, st := if k = .read then .sending else .receiving } } := by
  have goes : frameGoesOn (frameKind s) c = true := by
    rw [frameGoesOn_iff, kind]
    cases k <;> simp_all
  unfold claimTaken
  dsimp only
  rw [goes, if_pos rfl, if_pos own, kind]
  cases k with
  | probe => exact absurd rfl body
  | _ => rfl

theorem claimTaken_other (proceeds : c = .proceed) (other : s.responder.code ≠ .proceed)
    (body : frameKind s = some .read ∨ frameKind s = some .write) : claimTaken c s =
      { s with
        hold := s.hold.noReasons
        responder := { s.responder with goesOn := true, st := .passive, window := none } } := by
  unfold claimTaken
  dsimp only
  rw [(frameGoesOn_iff _ _).mpr ⟨proceeds, body⟩, if_pos rfl, if_neg other]
  rfl

theorem claimTaken_ends (ends : ¬ (c = .proceed ∧ (frameKind s = some .read ∨ frameKind s = some .write))) :
    claimTaken c s = frameOver (dropFrame
      { s with hold := s.hold.noReasons, responder := { s.responder with goesOn := false } }) := by
  have no : frameGoesOn (frameKind s) c = false := by
    rw [← Bool.not_eq_true, frameGoesOn_iff]
    exact ends
  unfold claimTaken
  dsimp only
  rw [no, if_neg Bool.false_ne_true]
  rfl

end

/-- The part with bit 37 of the frame taken. -/
def claimSlotOver (u : State) : State :=
  { u with
    line := { u.line with sbck := true, stuckMs := 0, stuckDue := false }
    responder := { u.responder with pos := .within 37 } }

theorem exec_responderClaim {s : State} {b : Bool} (comes : RiseComes (responderCountEnd s) b)
    (phase : (responderCountEnd s).engine.phase = .none) (st : (responderCountEnd s).responder.st = .claiming)
    (pos : (responderCountEnd s).responder.pos = .within 36) : exec .responderClaim s = .next
      (claimTaken (claimOfBits (responderCountEnd s).responder.claimFirst b) (claimSlotOver (responderCountEnd s))) := by
  refine congrArg Host.Outcome.next ?_
  show riseCase (responderAt .claiming 36) s = _
  rw [riseCase_comes comes (by simp [responderAt, st, pos]), engineRise_none b phase,
    responderRise_claimSecond (s := sbckHigh _) st pos]
  rfl

/-- Settles O40: the frame goes on, is followed, or is at its end. -/
theorem responderClaim : Obligations.ResponderClaim := by
  intro s b u line body v atEnd comes phase st pos
  have claims : exec .responderClaim s = .next (claimTaken line (claimSlotOver u)) := exec_responderClaim comes phase st pos
  clear_value u
  rw [claims]
  refine ⟨fun proceeds own read => ?_, fun proceeds own write => ?_, fun proceeds other isBody => ?_, fun ends out => ?_,
    fun i ends own inFrame => ?_⟩
  · rw [claimTaken_own (s := claimSlotOver u) proceeds own read (by simp)]
    rfl
  · rw [claimTaken_own (s := claimSlotOver u) proceeds own write (by simp)]
    rfl
  · rw [claimTaken_other (s := claimSlotOver u) proceeds other isBody]
    rfl
  · have noBody : ¬ (line = .proceed ∧ body) := fun both => ends.elim (fun h => h both.1) (fun h => h both.2)
    rw [claimTaken_ends (s := claimSlotOver u) noBody, dropFrame_ended]
    · rfl
    · exact out
  · have noBody : ¬ (line = .proceed ∧ body) := fun both => ends.elim (fun h => h both.1) (fun h => h both.2)
    rw [claimTaken_ends (s := claimSlotOver u) noBody, dropFrame_inFrame (i := i), endWindowFrame_inFrame]
    · rfl
    · exact inFrame
    · exact own
    · exact inFrame

/-! ### The READ's response slot and the WRITE's check (R140, R141, R143) -/

theorem responderRise_confirming {s : State} {b : Bool} {n : Nat} (st : s.responder.st = .confirming)
    (pos : s.responder.pos = .within n) :
    responderRise b s = confirmingBit (s.setResponder { s.responder with pos := .within (n + 1) }) := by
  simp only [responderRise, pos, st]

theorem confirmingBit_read {s : State} {i : Fin 8} (read : frameKind s = some .read) (own : s.responder.window = some i) :
    confirmingBit s = endWindowFrame i s := by
  simp only [confirmingBit, read, own]

/-- The last check bit of a WRITE, and the check fails. -/
theorem receivingBit_fails {s : State} {b : Bool} {i : Fin 8} (fails : shiftIn s.responder.check b ≠ s.responder.crc)
    (own : s.responder.window = some i) : receivingBit (45 + 8 * frameLen s) b s = endWindowFrame i
      { s with
        responder := { s.responder with
          st := .confirming, check := shiftIn s.responder.check b, verified := false, intake := Vector.replicate 32 0 }
        hold := { s.hold with reservation := false } } := by
  unfold receivingBit
  dsimp only
  rw [if_neg (by omega), if_pos rfl, if_neg fails]
  unfold discardWrite
  simp only [State.setResponder_responder, own]
  rfl

/-- Settles O42: both end the window's frame. -/
theorem readSlotAndWriteCheckFail : Obligations.ReadSlotAndWriteCheckFail := by
  constructor
  · intro s b i u w comes phase st pos read own inFrame
    have rises : exec .readResponseSlot s = .next (responderRise b (sbckHigh u)) := by
      refine congrArg Host.Outcome.next ?_
      show riseCase readSlotAtRise s = _
      rw [riseCase_comes comes (by simp [readSlotAtRise, responderAt, u, st, pos, read]), engineRise_none b phase]
    clear_value u
    rw [rises, responderRise_confirming (s := sbckHigh u) st pos, confirmingBit_read (i := i) ?_ ?_, endWindowFrame_inFrame ?_,
      show 45 + 8 * frameLen u + 1 = 46 + 8 * frameLen u by omega]
    · rfl
    · exact inFrame
    · exact read
    · exact own
  · intro s b i u w comes phase st pos fails own inFrame
    have level : u.line.sbdt = b := comes.2.2.2.2.1
    have rises : exec .writeCheckFail s = .next (responderRise b (sbckHigh u)) := by
      refine congrArg Host.Outcome.next ?_
      show riseCase checkFailsAtRise s = _
      rw [riseCase_comes comes, engineRise_none b phase]
      show (u.responder.st == .receiving && u.responder.pos == .within (44 + 8 * frameLen u) &&
        shiftIn u.responder.check u.line.sbdt != u.responder.crc) = true
      simp [st, pos, level, fails]
    clear_value u
    let t : State := (sbckHigh u).setResponder { u.responder with pos := .within (45 + 8 * frameLen u) }
    have takes : responderRise b (sbckHigh u) = receivingBit (45 + 8 * frameLen t) b t := by
      rw [responderRise_receiving (s := sbckHigh u) st pos, show 44 + 8 * frameLen u + 1 = 45 + 8 * frameLen u by omega]
      rfl
    rw [rises, takes, receivingBit_fails (s := t) fails own, endWindowFrame_inFrame ?_]
    · rfl
    · exact inFrame

end Sys2Proof.Machine

/-! Buffers, regions and the bytes of page memory (R26, R27, R32, R89, R139, R142). -/

namespace Sys2Proof.Machine

/-! ### Buffers -/

/-- A list as a buffer reads as the list, and zero beyond it. -/
theorem bufferByte_toBuffer (n : Nat) (l : List Byte) (j : Nat) :
    bufferByte (toBuffer n l) j = if j < n then l.getD j 0 else 0 := by
  unfold bufferByte
  by_cases inside : j < n
  · rw [dif_pos inside, if_pos inside]
    show ((l ++ List.replicate n 0).take n).toArray[j]'(by simp; omega) = _
    rw [List.getElem_toArray, List.getElem_take, List.getD_eq_getElem?_getD]
    by_cases listed : j < l.length
    · rw [List.getElem_append_left listed, List.getElem?_eq_getElem listed, Option.getD_some]
    · rw [List.getElem_append_right (by omega), List.getElem_replicate, List.getElem?_eq_none (by omega), Option.getD_none]
  · rw [dif_neg inside, if_neg inside]

theorem bufferByte_bufferSet {n : Nat} (v : Vector Byte n) (j : Nat) (b : Byte) (x : Nat) :
    bufferByte (bufferSet v j b) x = if x = j ∧ j < n then b else bufferByte v x := by
  unfold bufferSet
  by_cases inside : j < n
  · rw [dif_pos inside]
    by_cases same : x = j
    · subst same
      rw [if_pos ⟨rfl, inside⟩]
      unfold bufferByte
      rw [dif_pos inside, tget_tset_same]
    · rw [if_neg fun h => same h.1]
      unfold bufferByte
      by_cases within : x < n
      · rw [dif_pos within, dif_pos within, tget_tset_ne _ _ (fun e => same (Fin.mk.inj e))]
      · rw [dif_neg within, dif_neg within]
  · rw [dif_neg inside, if_neg fun h => inside h.2]

/-- An intake as a list. -/
theorem getElem_toList_eq_bufferByte {n : Nat} (v : Vector Byte n) {j : Nat} (inside : j < v.toList.length) :
    v.toList[j] = bufferByte v j := by
  have below : j < n := by simpa using inside
  unfold bufferByte tget
  rw [dif_pos below, Vector.getElem_toList]

/-! ### Regions at allocation (R26, R27, R32) -/

/-- The region of a frame at allocation. -/
def regionBytes (f : Frame) (payload : List Byte) : List Byte :=
  match f.kind with
  | .write => payload.take f.length
  | .read => List.replicate f.length 0
  | .probe => []

/-- What is left of the packed payload after a frame. -/
def payloadAfter (f : Frame) (payload : List Byte) : List Byte := if f.kind = .write then payload.drop f.length else payload

theorem layRegions_cons (f : Frame) (rest : List Frame) (payload : List Byte) :
    layRegions (f :: rest) payload = regionBytes f payload ++ layRegions rest (payloadAfter f payload) := by
  unfold regionBytes payloadAfter
  conv => lhs; unfold layRegions
  cases f.kind <;> rfl

/-- The payload bytes that these frames take. -/
def writeLength (c : List Frame) : Nat := chainLength (c.filter fun g => g.kind == .write)

theorem chainLength_cons (f : Frame) (rest : List Frame) : chainLength (f :: rest) = f.length + chainLength rest := by
  simp [chainLength]

theorem writeLength_cons (f : Frame) (rest : List Frame) :
    writeLength (f :: rest) = (if f.kind = .write then f.length else 0) + writeLength rest := by
  unfold writeLength
  by_cases write : f.kind = .write
  · rw [List.filter_cons_of_pos (by simp [write]), chainLength_cons, if_pos write]
  · rw [List.filter_cons_of_neg (by simp [write]), if_neg write, Nat.zero_add]

theorem writeLength_le (c : List Frame) : writeLength c ≤ chainLength c := by
  induction c with
  | nil => exact Nat.le_refl _
  | cons f rest ih =>
    rw [writeLength_cons, chainLength_cons]
    split <;> omega

theorem getD_append_inside {l m : List Byte} {i : Nat} (inside : i < l.length) : (l ++ m).getD i 0 = l.getD i 0 := by
  rw [List.getD_eq_getElem?_getD, List.getD_eq_getElem?_getD, List.getElem?_append_left inside]

theorem getD_append_beyond {l m : List Byte} {i : Nat} (beyond : l.length ≤ i) :
    (l ++ m).getD i 0 = m.getD (i - l.length) 0 := by
  rw [List.getD_eq_getElem?_getD, List.getD_eq_getElem?_getD, List.getElem?_append_right beyond]

theorem regionBytes_length {f : Frame} {payload : List Byte} (probe : f.kind = .probe → f.length = 0)
    (enough : f.kind = .write → f.length ≤ payload.length) : (regionBytes f payload).length = f.length := by
  unfold regionBytes
  cases kind : f.kind with
  | write => exact List.length_take.trans (Nat.min_eq_left (enough kind))
  | read => simp
  | probe => simp [probe kind]

theorem getD_regionBytes {f : Frame} (payload : List Byte) {j : Nat} (inside : j < f.length) :
    (regionBytes f payload).getD j 0 = if f.kind = .write then payload.getD j 0 else 0 := by
  unfold regionBytes
  cases f.kind with
  | write => simp [List.getD_eq_getElem?_getD, inside]
  | read => simp [List.getD_eq_getElem?_getD, inside]
  | probe => simp

theorem payloadAfter_enough {f : Frame} {rest : List Frame} {payload : List Byte}
    (enough : writeLength (f :: rest) ≤ payload.length) : writeLength rest ≤ (payloadAfter f payload).length := by
  rw [writeLength_cons] at enough
  unfold payloadAfter
  split at enough
  · rename_i write
    rw [if_pos write, List.length_drop]
    omega
  · rename_i other
    rw [if_neg other]
    omega

theorem payload_enough {f : Frame} {rest : List Frame} {payload : List Byte}
    (enough : writeLength (f :: rest) ≤ payload.length) (write : f.kind = .write) : f.length ≤ payload.length := by
  rw [writeLength_cons, if_pos write] at enough
  omega

theorem layRegions_length (chain : List Frame) : ∀ payload : List Byte, writeLength chain ≤ payload.length →
    (∀ f ∈ chain, f.kind = .probe → f.length = 0) → (layRegions chain payload).length = chainLength chain := by
  induction chain with
  | nil => exact fun _ _ _ => rfl
  | cons f rest ih =>
    intro payload enough probes
    rw [layRegions_cons, List.length_append, chainLength_cons,
      regionBytes_length (probes f (by simp)) (payload_enough enough),
      ih _ (payloadAfter_enough enough) fun g mem => probes g (by simp [mem])]

/-- A region ends within the chain's length. -/
theorem region_le (chain : List Frame) : ∀ {k : Nat} {f : Frame}, chain[k]? = some f →
    regionStart chain k + f.length ≤ chainLength chain := by
  induction chain with
  | nil => exact fun found => by simp at found
  | cons g rest ih =>
    intro k f found
    rw [chainLength_cons]
    cases k with
    | zero =>
      obtain rfl : g = f := by simpa using found
      have start : regionStart (g :: rest) 0 = 0 := rfl
      omega
    | succ k =>
      have start : regionStart (g :: rest) (k + 1) = g.length + regionStart rest k := chainLength_cons g (rest.take k)
      have later := ih (k := k) (f := f) (by simpa using found)
      omega

/-- Each region in its place. -/
theorem getD_layRegions (chain : List Frame) : ∀ (payload : List Byte) (k : Nat) (f : Frame) (j : Nat),
    writeLength chain ≤ payload.length → (∀ f ∈ chain, f.kind = .probe → f.length = 0) → chain[k]? = some f →
      j < f.length → (layRegions chain payload).getD (regionStart chain k + j) 0 =
        if f.kind = .write then payload.getD (writeLength (chain.take k) + j) 0 else 0 := by
  induction chain with
  | nil => exact fun _ _ _ _ _ _ found => by simp at found
  | cons g rest ih =>
    intro payload k f j enough probes found inside
    have long := regionBytes_length (probes g (by simp)) (payload_enough enough)
    rw [layRegions_cons]
    cases k with
    | zero =>
      obtain rfl : g = f := by simpa using found
      have start : regionStart (g :: rest) 0 = 0 := rfl
      have before : writeLength ((g :: rest).take 0) = 0 := rfl
      rw [start, before, Nat.zero_add, getD_append_inside (by omega), getD_regionBytes payload inside]
    | succ k =>
      have start : regionStart (g :: rest) (k + 1) = g.length + regionStart rest k := chainLength_cons g (rest.take k)
      rw [start, getD_append_beyond (by omega), long,
        show g.length + regionStart rest k + j - g.length = regionStart rest k + j by omega,
        ih _ k f j (payloadAfter_enough enough) (fun h mem => probes h (by simp [mem])) (by simpa using found) inside,
        List.take_succ_cons, writeLength_cons]
      unfold payloadAfter
      by_cases write : g.kind = .write
      · rw [if_pos write, if_pos write, List.getD_eq_getElem?_getD, List.getElem?_drop, ← List.getD_eq_getElem?_getD,
          ← Nat.add_assoc]
      · rw [if_neg write, if_neg write, Nat.zero_add]

/-! ### An ACCEPTED READ, and the bytes read (R89, R139) -/

theorem bufferByte_copyRegion (data : Vector Byte 64) (start : Nat) (capture : Vector Byte 32) (x : Nat) (n : Nat)
    (fits : start + n ≤ 64) : bufferByte (copyRegion data start capture n) x =
      if start ≤ x ∧ x < start + n then bufferByte capture (x - start) else bufferByte data x := by
  induction n with
  | zero => rw [if_neg (by omega)]; rfl
  | succ n ih =>
    unfold copyRegion
    rw [bufferByte_bufferSet, ih (by omega)]
    by_cases last : x = start + n
    · rw [if_pos ⟨last, by omega⟩, if_pos (by omega), last, Nat.add_sub_cancel_left]
    · rw [if_neg (fun h => last h.1)]
      by_cases inside : start ≤ x ∧ x < start + n
      · rw [if_pos inside, if_pos (by omega)]
      · rw [if_neg inside, if_neg (by omega)]

theorem getD_readBytes (m : Memory) (n : Nat) : ∀ a j,
    (m.readBytes a n).getD j 0 = if j < n then m.read (a + j) else 0 := by
  induction n with
  | zero => intro a j; simp [Memory.readBytes]
  | succ n ih =>
    intro a j
    unfold Memory.readBytes
    cases j with
    | zero => simp
    | succ j =>
      rw [List.getD_cons_succ, ih]
      simp only [Nat.add_lt_add_iff_right, show a + 1 + j = a + (j + 1) by omega]

/-- Settles O18: each buffer byte by byte. -/
theorem bufferContents : Obligations.BufferContents := by
  refine ⟨fun chain payload fits whole probes => ⟨fun k f j found inside => ?_, fun x beyond => ?_⟩,
    fun data start n capture x fits _ => bufferByte_copyRegion data start capture x n fits, fun m a n j _ below => ?_⟩
  · have enough : writeLength chain ≤ payload.length := by
      have := writeLength_le chain
      omega
    have ends := region_le chain found
    unfold allocatedData
    rw [bufferByte_toBuffer, getD_layRegions chain payload k f j enough probes found inside, if_pos (by omega)]
    rfl
  · have enough : writeLength chain ≤ payload.length := by
      have := writeLength_le chain
      omega
    have listed := layRegions_length chain payload enough probes
    unfold allocatedData
    rw [bufferByte_toBuffer, List.getD_eq_getElem?_getD, List.getElem?_eq_none (by omega), Option.getD_none, ite_self]
  · rw [bufferByte_toBuffer, if_pos below, getD_readBytes]

end Sys2Proof.Machine

/-! The commit of a remote WRITE (R142, R146, R147, R152, R163, R164). -/

namespace Sys2Proof.Machine

/-! ### The bytes written (R142, R147) -/

theorem headerLength_le (h : BitVec 35) : headerLength h ≤ 32 := by
  have := (h.extractLsb' 0 5).isLt
  unfold headerLength
  omega

theorem Vector.length_take_toList (v : Vector Byte 32) {n : Nat} (fits : n ≤ 32) : (v.toList.take n).length = n := by
  simp [fits]

/-- A buffer's first bytes written to page memory, byte by byte. -/
theorem read_writeBytes_take {m : Memory} (wf : m.wf = true) (start : Nat) (v : Vector Byte 32) {n : Nat} (fits : n ≤ 32)
    (inside : start + n ≤ Config.pageBytes) (a : Nat) : (m.writeBytes start (v.toList.take n)).read a =
      if start ≤ a ∧ a < start + n then bufferByte v (a - start) else m.read a := by
  have long := Vector.length_take_toList v fits
  by_cases within : start ≤ a ∧ a < start + n
  · obtain ⟨j, rfl⟩ : ∃ j, a = start + j := ⟨a - start, by omega⟩
    have below : j < (v.toList.take n).length := by omega
    rw [if_pos within, Memory.read_writeBytes_inside _ m start j wf (by omega) below, List.getElem_take,
      getElem_toList_eq_bufferByte, Nat.add_sub_cancel_left]
  · rw [if_neg within, Memory.read_writeBytes_outside a _ m start wf (by omega)]

/-! ### The commit (R142) -/

/-- A notify window's reservation becomes a record. -/
abbrev posts (i : Fin 8) (s : State) : Prop := (windowOf s i).notify = true ∧ s.hold.reservation = true

/-- The hold unit after a commit. -/
def holdCommitted (i : Fin 8) (s : State) : HoldUnit :=
  if posts i s then
    { s.hold with
      queue := s.hold.queue ++ [notifyRecord s i], reservation := false, sequence := s.hold.sequence + 1 }
  else s.hold

theorem flags_or_zero (f : BitVec 11) : f ||| 0 = f := BitVec.or_zero

/-- The page is written, and a record is posted where the window takes one. -/
theorem commitRecord_eq (i : Fin 8) (s : State) :
    (if (windowOf s i).notify && s.hold.reservation then appendNotify i (s.setPage (commitBytes s i))
      else s.setPage (commitBytes s i)) =
      { s with
        page := commitBytes s i
        hold := holdCommitted i s
        events := { s.events with flags := s.events.flags ||| (if posts i s then 0x002 else 0) } } := by
  unfold holdCommitted
  by_cases record : posts i s
  · rw [if_pos record, if_pos record, if_pos (by rw [Bool.and_eq_true]; exact record)]
    rfl
  · rw [if_neg record, if_neg record, if_neg (by rw [Bool.and_eq_true]; exact record), flags_or_zero]
    rfl

/-- The commit at an in-frame window. -/
theorem commitWrite_inFrame {s : State} {i : Fin 8} (inFrame : (windowOf s i).inFrame = true) : commitWrite i s =
    { s with
      page := commitBytes s i
      responder := { s.responder with intake := Vector.replicate 32 0 }
      windows := tset s.windows i { windowOf s i with
        inFrame := false, hold := if (windowOf s i).hold = .pending then .held else (windowOf s i).hold }
      hold := holdCommitted i s
      events := { s.events with flags := s.events.flags ||| (if posts i s then 0x002 else 0) |||
        (if (windowOf s i).hold = .pending then 0x004 else 0) } } := by
  have flags (f : BitVec 11) : (if (windowOf s i).hold = .pending then f ||| 0x004 else f) =
      f ||| (if (windowOf s i).hold = .pending then 0x004 else 0) := by
    split
    · rfl
    · rw [flags_or_zero]
  have record := commitRecord_eq i s
  unfold commitWrite
  dsimp only [State.setPage_hold]
  rw [record, endWindowFrame_inFrame, ← flags]
  · rfl
  · exact inFrame

theorem commitNow_due {s : State} {i : Fin 8} (own : s.responder.window = some i) (commits : s.responder.commits = true)
    (low : s.line.sbck = false) : commitNow s = commitWrite i s := by
  unfold commitNow
  simp only [own]
  exact if_pos (by simp [commits, low])

/-- ACCEPT is driven in the low phase of the response slot, and the commit goes with it. -/
theorem exec_commit {s : State} {i : Fin 8} {d : Nat} (delay : s.responder.delay = some d)
    (commits : s.responder.commits = true) (want : s.responder.want = true)
    (own : s.responder.window = some i) (low : s.line.sbck = false) :
    let r := (commitWrite i s).responder
    let t := (commitWrite i s).setResponder { r with delay := none, want := false, commits := false, driveSbdt := true }
    r.release = none → exec .commit s = .next (if s.line.sbdt = true then sbdtLow t else t) := by
  intro r t still
  have level : levelSet s = t := by
    unfold levelSet
    rw [commitNow_due own commits low, want]
  have line : t.line = s.line := (commitWrite_frame i s).line
  have pulls : responderPulls t = if s.line.sbdt = true then sbdtLow t else t := by
    by_cases high : s.line.sbdt = true
    · rw [if_pos high, responderPulls_data (by rw [line]; exact high) (by rw [line]; exact low)]
    · rw [if_neg high, responderPulls_low (by rw [line]; simpa using high)]
  have sets : responderSets s = if s.line.sbdt = true then sbdtLow t else t := by
    rw [responderSets_counting delay, if_pos want, level, pulls]
  have kept : (if s.line.sbdt = true then sbdtLow t else t).responder.release = none := by
    split
    · exact still
    · exact still
  refine congrArg Host.Outcome.next ?_
  show (if commitDue s then responderReleases (responderSets s) else s) = _
  rw [if_pos (by simp [commitDue, delay, commits, low]), sets, responderReleases_none kept]

/-- Settles O41: the commit's bytes, its record and its window, and the line as ACCEPT leaves it. -/
theorem commit : Obligations.Commit := by
  intro s i d w h start record delay commits want release own low inFrame wf fits
  have lengths := headerLength_le h
  refine ⟨commitBytes s i, ?_, Memory.writeBytes_wf _ _ _ wf, fun a => ?_⟩
  · have drives := exec_commit delay commits want own low
    rw [commitWrite_inFrame inFrame] at drives
    rw [drives release]
    by_cases high : s.line.sbdt = true
    · rw [if_pos high, if_pos high]
      rfl
    · rw [if_neg high, if_neg high]
      rfl
  · exact read_writeBytes_take wf start s.responder.intake lengths fits a

end Sys2Proof.Machine

/-! WINDOW_WRITE, WINDOW_ENABLE and WINDOW_DISABLE (R126 to R129, R203). -/

namespace Sys2Proof.Machine

/-! ### The window that a command names (R189) -/

theorem windowIndex_of {arg : BitVec 16} {i : Fin 8} (h : arg.toNat = i.val) : windowIndex arg = some i := by
  have below := i.isLt
  unfold windowIndex
  rw [dif_pos (by omega)]
  exact congrArg some (Fin.ext h)

theorem windowIndex_beyond {arg : BitVec 16} (h : 8 ≤ arg.toNat) : windowIndex arg = none := dif_neg (by omega)

/-- A command that changes nothing but its result word. -/
theorem hostCommand_answered {s : State} {body : State → Reply} {c : ResultCode} {v : Byte} (opened : WriteOpen 0x004 s)
    (answer : ∀ p, body (s.setHost p) = .unchanged (s.setHost p) c v) :
    (Host.Outcome.next (hostCommand body s) : Answer) = .next { s with host := posted c v s.host } :=
  hostCommand_posted (t := s) opened answer

section
variable {arg : BitVec 16} {i : Fin 8} (names : arg.toNat = i.val) (s : State)
include names

theorem windowWriteCommand_at : windowWriteCommand arg s =
    if (windowOf s i).enabled then .unchanged s .windowEnabled (indexValue i)
    else { state := setWindow i (editWindow s.edit (windowOf s i)) s, code := .ok, value := indexValue i } := by
  unfold windowWriteCommand
  rw [windowIndex_of names]

theorem windowEnableCommand_at : windowEnableCommand arg s =
    if (windowOf s i).enabled then .unchanged s .ok (indexValue i)
    else if !windowSettingsValid (windowOf s i) then .unchanged s .badWindow (indexValue i)
    else
      match enabledWith (windowOf s i).node s with
      | some j => .unchanged s .duplicate (indexValue j)
      | none => { state := setWindow i { windowOf s i with enabled := true } s, code := .ok, value := indexValue i } := by
  unfold windowEnableCommand
  rw [windowIndex_of names] <;> rfl

theorem windowDisableCommand_at : windowDisableCommand arg s =
    if !(windowOf s i).enabled then .unchanged s .ok (indexValue i)
    else if (windowOf s i).inFrame || stallingFor s i then .unchanged s .windowActive (indexValue i)
    else { state := setWindow i { windowOf s i with enabled := false, hold := .open } s, code := .ok, value := indexValue i } := by
  unfold windowDisableCommand
  rw [windowIndex_of names]

end

/-! ### The checks of WINDOW_ENABLE (R128) -/

theorem windowSettingsValid_iff (w : Window) : windowSettingsValid w = true ↔
    w.node ≠ 0 ∧ w.node ≠ 255 ∧ 1 ≤ w.size.toNat ∧ w.size.toNat ≤ 256 ∧ w.base.toNat + w.size.toNat ≤ 1024 ∧
      w.access ≠ .code3 ∧ (w.contention = .stall → w.stallMs ≠ 0) := by
  have contention : (w.contention = .answerBusy ∨ w.stallMs ≠ 0) ↔ (w.contention = .stall → w.stallMs ≠ 0) := by
    cases w.contention <;> simp
  simp only [windowSettingsValid, validAddress, Bool.and_eq_true, Bool.or_eq_true, bne_iff_ne,
    beq_iff_eq, decide_eq_true_eq, and_assoc]
  rw [contention]
  rfl

theorem enabledWith_first {s : State} {node : Byte} {j : Fin 8} (enabled : (windowOf s j).enabled = true)
    (same : (windowOf s j).node = node) (first : ∀ l, l < j → (windowOf s l).enabled = true → (windowOf s l).node ≠ node) :
    enabledWith node s = some j := by
  refine tfind_first (by simpa using ⟨enabled, same⟩) fun l before => ?_
  have other := first l before
  unfold windowOf at other
  cases isEnabled : (tget s.windows l).enabled with
  | false => rfl
  | true => simpa using other isEnabled

theorem enabledWith_none {s : State} {node : Byte} (nobody : ∀ j, (windowOf s j).enabled = true → (windowOf s j).node ≠ node) :
    enabledWith node s = none := by
  refine tfind_eq_none.mpr fun l => ?_
  have other := nobody l
  unfold windowOf at other
  cases isEnabled : (tget s.windows l).enabled with
  | false => rfl
  | true => simpa using other isEnabled

theorem stallingFor_iff (s : State) (i : Fin 8) :
    stallingFor s i = true ↔ s.responder.st = .stalling ∧ s.hold.stallWindow = some i := by
  simp [stallingFor]

/-- Settles O43: command by command, on a window enabled and not. -/
theorem windowCommands : Obligations.WindowCommands := by
  intro s arg opened refused
  refine ⟨fun beyond => ⟨?_, ?_, ?_⟩, fun i names => ?_⟩
  · refine hostCommand_answered (body := windowWriteCommand arg) opened fun p => ?_
    unfold windowWriteCommand
    rw [windowIndex_beyond beyond]
  · refine hostCommand_answered (body := windowEnableCommand arg) opened fun p => ?_
    unfold windowEnableCommand
    rw [windowIndex_beyond beyond]
  · refine hostCommand_answered (body := windowDisableCommand arg) opened fun p => ?_
    unfold windowDisableCommand
    rw [windowIndex_beyond beyond]
  · intro w v
    refine ⟨fun enabled => ⟨?_, ?_⟩, fun disabled => ⟨?_, ?_, fun invalid => ?_, fun j valid isEnabled same first => ?_,
      fun valid nobody => ?_⟩, fun enabled => ⟨fun active => ?_, fun idle => ?_⟩⟩
    · refine hostCommand_answered (body := windowWriteCommand arg) opened fun p => ?_
      rw [windowWriteCommand_at names, windowOf_setHost, if_pos enabled]
      rfl
    · refine hostCommand_answered (body := windowEnableCommand arg) opened fun p => ?_
      rw [windowEnableCommand_at names, windowOf_setHost, if_pos enabled]
      rfl
    · refine hostCommand_answered (body := windowDisableCommand arg) opened fun p => ?_
      rw [windowDisableCommand_at names, windowOf_setHost, if_pos (by rw [disabled]; rfl)]
      rfl
    · refine hostCommand_posted (body := windowWriteCommand arg) (t := setWindow i (editWindow s.edit w) s) opened fun p => ?_
      rw [windowWriteCommand_at names, windowOf_setHost, if_neg (by rw [disabled]; simp)]
      rfl
    · have bad : (!windowSettingsValid w) = true := by
        rw [Bool.not_eq_true', ← Bool.not_eq_true, windowSettingsValid_iff]
        exact invalid
      refine hostCommand_answered (body := windowEnableCommand arg) opened fun p => ?_
      rw [windowEnableCommand_at names, windowOf_setHost, if_neg (by rw [disabled]; simp), if_pos bad]
      rfl
    · have good : ¬ (!windowSettingsValid w) = true := by
        rw [(windowSettingsValid_iff w).mpr valid]
        simp
      refine hostCommand_answered (body := windowEnableCommand arg) opened fun p => ?_
      rw [windowEnableCommand_at names, windowOf_setHost, if_neg (by rw [disabled]; simp), if_neg good,
        enabledWith_setHost, enabledWith_first isEnabled same first]
      rfl
    · have good : ¬ (!windowSettingsValid w) = true := by
        rw [(windowSettingsValid_iff w).mpr valid]
        simp
      refine hostCommand_posted (body := windowEnableCommand arg) (t := setWindow i { w with enabled := true } s) opened
        fun p => ?_
      rw [windowEnableCommand_at names, windowOf_setHost, if_neg (by rw [disabled]; simp), if_neg good,
        enabledWith_setHost, enabledWith_none nobody]
      rfl
    · have inUse : (w.inFrame || stallingFor s i) = true := by
        rw [Bool.or_eq_true, stallingFor_iff]
        exact active
      refine hostCommand_answered (body := windowDisableCommand arg) opened fun p => ?_
      rw [windowDisableCommand_at names, windowOf_setHost, stallingFor_setHost, if_neg (by rw [enabled]; simp), if_pos inUse]
      rfl
    · have unused : ¬ (w.inFrame || stallingFor s i) = true := by
        rw [Bool.or_eq_true, stallingFor_iff]
        exact idle
      refine hostCommand_posted (body := windowDisableCommand arg)
        (t := setWindow i { w with enabled := false, hold := .open } s) opened fun p => ?_
      rw [windowDisableCommand_at names, windowOf_setHost, stallingFor_setHost, if_neg (by rw [enabled]; simp), if_neg unused]
      rfl

end Sys2Proof.Machine

/-! HOLD_WINDOW, RELEASE_WINDOW and POP_NOTIFY (R151, R153, R165). -/

namespace Sys2Proof.Machine

/-! ### The commands at a window (R151, R153) -/

theorem reevaluateStall_idle {s : State} (h : s.responder.st ≠ .stalling) : reevaluateStall s = s := if_neg h

section
variable {arg : BitVec 16} {i : Fin 8} (names : arg.toNat = i.val)
include names

theorem holdWindowCommand_disabled {s : State} (disabled : (windowOf s i).enabled = false) :
    holdWindowCommand arg s = .unchanged s .badWindow (indexValue i) := by
  unfold holdWindowCommand
  rw [windowIndex_of names]
  exact if_pos (by rw [disabled]; rfl)

/-- The answer of HOLD_WINDOW at an enabled window. -/
def holdReply (i : Fin 8) (s : State) : HoldState → Reply
  | .open =>
    { state := changeHold i (if (windowOf s i).inFrame then .pending else .held) s
      code := if (windowOf s i).inFrame then .pending else .held
      value := indexValue i }
  | .pending => .unchanged s .pending (indexValue i)
  | .held => .unchanged s .held (indexValue i)

theorem holdWindowCommand_enabled {s : State} (enabled : (windowOf s i).enabled = true) :
    holdWindowCommand arg s = holdReply i s (windowOf s i).hold := by
  have on : ¬ (!(windowOf s i).enabled) = true := by simp [enabled]
  unfold holdWindowCommand
  rw [windowIndex_of names]
  refine (if_neg on).trans ?_
  match (windowOf s i).hold with
  | .open =>
    unfold holdReply
    cases (windowOf s i).inFrame <;> rfl
  | .pending | .held => rfl

omit names in
theorem holdReply_outside {s : State} (outside : (windowOf s i).inFrame = false) :
    holdReply i s .open = { state := changeHold i .held s, code := .held, value := indexValue i } := by
  unfold holdReply
  rw [outside]
  rfl

omit names in
theorem holdReply_inFrame {s : State} (inFrame : (windowOf s i).inFrame = true) :
    holdReply i s .open = { state := changeHold i .pending s, code := .pending, value := indexValue i } := by
  unfold holdReply
  rw [inFrame]
  rfl

theorem releaseWindowCommand_open {s : State} (isOpen : (windowOf s i).hold = .open) :
    releaseWindowCommand arg s = .unchanged s .notHeld (indexValue i) := by
  unfold releaseWindowCommand
  rw [windowIndex_of names]
  simp only [isOpen]

theorem releaseWindowCommand_held {s : State} (held : (windowOf s i).hold ≠ .open) :
    releaseWindowCommand arg s = { state := changeHold i .open s, code := .ok, value := indexValue i } := by
  unfold releaseWindowCommand
  rw [windowIndex_of names]
  match hold : (windowOf s i).hold with
  | .open => exact absurd hold held
  | .pending | .held => simp only [hold]

end

theorem popNotifyCommand_empty {s : State} (empty : s.hold.queue = []) : popNotifyCommand s = .unchanged s .empty 0 := by
  simp only [popNotifyCommand, empty]

theorem popNotifyCommand_pops {s : State} {r : NotifyRecord} {rest : List NotifyRecord} (queue : s.hold.queue = r :: rest) :
    popNotifyCommand s =
      { state := reevaluateStall (s.setHold { s.hold with queue := rest }), code := .ok, value := r.sequence } := by
  simp only [popNotifyCommand, queue]

/-- Settles O44: the refusals, the holds by the window's hold state, and the pop. -/
theorem holdReleasePop : Obligations.HoldReleasePop := by
  intro s arg opened answered holds
  refine ⟨fun beyond => ⟨?_, ?_⟩, fun i names => ?_, fun empty => ?_, fun r rest idle queue => ?_⟩
  · refine hostCommand_answered (body := holdWindowCommand arg) opened fun p => ?_
    unfold holdWindowCommand
    rw [windowIndex_beyond beyond]
  · refine hostCommand_answered (body := releaseWindowCommand arg) opened fun p => ?_
    unfold releaseWindowCommand
    rw [windowIndex_beyond beyond]
  · intro w v
    have changes (idle : s.responder.st ≠ .stalling) (h : HoldState) (p : HostPort) :
        changeHold i h (s.setHost p) = (setWindow i { w with hold := h } s).setHost p :=
      reevaluateStall_idle (s := setWindow i _ (s.setHost p)) idle
    refine ⟨fun disabled => ?_, fun enabled => ⟨fun idle isOpen outside => ?_, fun idle isOpen inFrame => ?_, fun pending => ?_,
      fun held => ?_⟩, fun isOpen => ?_, fun idle held => ?_⟩
    · exact hostCommand_answered (body := holdWindowCommand arg) opened fun p =>
        holdWindowCommand_disabled (s := s.setHost p) names disabled
    · refine hostCommand_posted (body := holdWindowCommand arg) (t := setWindow i { w with hold := .held } s) opened fun p => ?_
      rw [holdWindowCommand_enabled (s := s.setHost p) names enabled, windowOf_setHost, isOpen,
        holdReply_outside (s := s.setHost p) outside, changes idle]
      rfl
    · refine hostCommand_posted (body := holdWindowCommand arg) (t := setWindow i { w with hold := .pending } s) opened
        fun p => ?_
      rw [holdWindowCommand_enabled (s := s.setHost p) names enabled, windowOf_setHost, isOpen,
        holdReply_inFrame (s := s.setHost p) inFrame, changes idle]
      rfl
    · refine hostCommand_answered (body := holdWindowCommand arg) opened fun p => ?_
      rw [holdWindowCommand_enabled (s := s.setHost p) names enabled, windowOf_setHost, pending]
      rfl
    · refine hostCommand_answered (body := holdWindowCommand arg) opened fun p => ?_
      rw [holdWindowCommand_enabled (s := s.setHost p) names enabled, windowOf_setHost, held]
      rfl
    · exact hostCommand_answered (body := releaseWindowCommand arg) opened fun p =>
        releaseWindowCommand_open (s := s.setHost p) names isOpen
    · refine hostCommand_posted (body := releaseWindowCommand arg) (t := setWindow i { w with hold := .open } s) opened
        fun p => ?_
      rw [releaseWindowCommand_held (s := s.setHost p) names held, changes idle]
      rfl
  · exact hostCommand_answered (body := popNotifyCommand) opened fun p => popNotifyCommand_empty (s := s.setHost p) empty
  · refine hostCommand_posted (body := popNotifyCommand) (t := s.setHold { s.hold with queue := rest }) opened fun p => ?_
    rw [popNotifyCommand_pops (s := s.setHost p) queue, reevaluateStall_idle (s := (s.setHost p).setHold _) idle]
    rfl

end Sys2Proof.Machine

/-! Stalls that go on and stalls that end (R141, R151, R153, R157 to R160, R162, R165). -/

namespace Sys2Proof.Machine

/-! ### The end of a stall (R158, R159) -/

/-- The Responder that claims at the end of a stall: with SBCK held SBDT takes the first claim bit at once. -/
def claimsAfterStall (driven : Bool) (c : ClaimCode) (r : Responder) : Responder :=
  if driven then { r with st := .claiming, code := c, driveSbdt := true, release := some 10 }
  else { r with st := .claiming, code := c }

/-- The line at the end of a stall. -/
def lineAfterStall (driven : Bool) (l : Line) : Line := if driven then l.dataLow else l

theorem endStall_eq (c : ClaimCode) (s : State) : endStall c s =
    { s with
      hold := s.hold.stallOver
      line := lineAfterStall s.responder.driveSbck s.line
      responder := claimsAfterStall s.responder.driveSbck c s.responder } := by
  unfold endStall lineAfterStall claimsAfterStall
  dsimp only
  by_cases driven : s.responder.driveSbck = true
  · rw [if_pos driven, if_pos driven, if_pos driven]
    rfl
  · rw [if_neg driven, if_neg driven, if_neg driven]
    rfl

/-! ### The reasons found again (R158) -/

/-- NOTIFY_FULL holds for the frame at this window. -/
abbrev fullAt (s : State) (i : Fin 8) : Prop :=
  frameKind s = some .write ∧ (windowOf s i).notify = true ∧ notifyLoad s.hold = 16

section
variable {s : State} {i : Fin 8} (stalling : s.responder.st = .stalling) (window : s.hold.stallWindow = some i)
include stalling window

theorem reevaluateStall_stalling : reevaluateStall s =
    if (windowOf s i).hold = .held ∨ fullAt s i then showReasons i s else endStall .proceed (beginFrame i s) := by
  unfold reevaluateStall
  rw [if_pos stalling]
  simp only [window]
  rw [reasonHeldFor_eq, reasonFullFor_eq]
  simp only [Bool.or_eq_true, decide_eq_true_eq]

/-- A reason is left: it is shown, and the stall goes on. -/
theorem reevaluateStall_goesOn (reason : (windowOf s i).hold = .held ∨ fullAt s i) : reevaluateStall s =
    { s with hold := { s.hold with
      reasonHeld := decide ((windowOf s i).hold = .held), reasonFull := decide (fullAt s i) } } := by
  rw [reevaluateStall_stalling stalling window, if_pos reason]
  unfold showReasons
  rw [reasonHeldFor_eq, reasonFullFor_eq]
  rfl

/-- No reason is left for a READ: the snapshot is taken. -/
theorem reevaluateStall_read (free : ¬ ((windowOf s i).hold = .held ∨ fullAt s i)) (read : frameKind s = some .read) :
    reevaluateStall s =
      { s with
        windows := tset s.windows i { windowOf s i with inFrame := true }
        hold := s.hold.stallOver
        line := lineAfterStall s.responder.driveSbck s.line
        responder := claimsAfterStall s.responder.driveSbck .proceed
          { s.responder with sendBuf := snapshotBytes s i } } := by
  rw [reevaluateStall_stalling stalling window, if_neg free, endStall_eq]
  unfold beginFrame
  simp only [read]
  rfl

/-- No reason is left for a WRITE: its intake begins, with its reservation. -/
theorem reevaluateStall_write (free : ¬ ((windowOf s i).hold = .held ∨ fullAt s i)) (write : frameKind s = some .write) :
    reevaluateStall s =
      { s with
        windows := tset s.windows i { windowOf s i with inFrame := true }
        hold := { s.hold.stallOver with reservation := s.hold.reservation || (windowOf s i).notify }
        line := lineAfterStall s.responder.driveSbck s.line
        responder := claimsAfterStall s.responder.driveSbck .proceed
          { s.responder with intake := Vector.replicate 32 0 } } := by
  rw [reevaluateStall_stalling stalling window, if_neg free, endStall_eq]
  unfold beginFrame
  simp only [write]
  rfl

end

/-! ### The three commands, before the reasons are found again -/

theorem endStall_setHost (c : ClaimCode) (s : State) (p : HostPort) :
    endStall c (s.setHost p) = (endStall c s).setHost p := by
  rw [endStall_eq, endStall_eq]
  rfl

theorem beginFrame_setHost (i : Fin 8) (s : State) (p : HostPort) :
    beginFrame i (s.setHost p) = (beginFrame i s).setHost p := by
  unfold beginFrame
  rw [frameKind_setHost]
  split <;> rfl

theorem reevaluateStall_setHost (s : State) (p : HostPort) : reevaluateStall (s.setHost p) = (reevaluateStall s).setHost p := by
  by_cases stalling : s.responder.st = .stalling
  · cases window : s.hold.stallWindow with
    | none =>
      unfold reevaluateStall
      rw [if_pos stalling, State.setHost_responder, if_pos stalling]
      simp only [State.setHost_hold, window]
    | some i =>
      rw [reevaluateStall_stalling stalling window, reevaluateStall_stalling (s := s.setHost p) stalling window,
        beginFrame_setHost, endStall_setHost]
      by_cases reason : (windowOf s i).hold = .held ∨ fullAt s i
      · rw [if_pos reason]
        exact if_pos reason
      · rw [if_neg reason]
        exact if_neg reason
  · rw [reevaluateStall_idle stalling, reevaluateStall_idle (s := s.setHost p) stalling]

section
variable {s : State} {arg : BitVec 16} {j : Fin 8} (opened : WriteOpen 0x004 s) (names : arg.toNat = j.val)
include opened names

/-- HOLD_WINDOW at an OPEN window outside a frame. -/
theorem exec_holdWindow_held (enabled : (windowOf s j).enabled = true) (isOpen : (windowOf s j).hold = .open)
    (outside : (windowOf s j).inFrame = false) : exec (.holdWindow arg) s = .next
      { reevaluateStall (setWindow j { windowOf s j with hold := .held } s) with
        host := posted .held (BitVec.ofNat 8 j.val) s.host } := by
  refine hostCommand_posted (body := holdWindowCommand arg) opened fun p => ?_
  rw [holdWindowCommand_enabled (s := s.setHost p) names enabled, windowOf_setHost, isOpen,
    holdReply_outside (s := s.setHost p) outside]
  exact congrArg (fun t => Reply.mk t _ _)
    (reevaluateStall_setHost (setWindow j { windowOf s j with hold := .held } s) p)

/-- HOLD_WINDOW at an OPEN window inside a frame. -/
theorem exec_holdWindow_pending (enabled : (windowOf s j).enabled = true) (isOpen : (windowOf s j).hold = .open)
    (inFrame : (windowOf s j).inFrame = true) : exec (.holdWindow arg) s = .next
      { reevaluateStall (setWindow j { windowOf s j with hold := .pending } s) with
        host := posted .pending (BitVec.ofNat 8 j.val) s.host } := by
  refine hostCommand_posted (body := holdWindowCommand arg) opened fun p => ?_
  rw [holdWindowCommand_enabled (s := s.setHost p) names enabled, windowOf_setHost, isOpen,
    holdReply_inFrame (s := s.setHost p) inFrame]
  exact congrArg (fun t => Reply.mk t _ _)
    (reevaluateStall_setHost (setWindow j { windowOf s j with hold := .pending } s) p)

theorem exec_releaseWindow_held (held : (windowOf s j).hold ≠ .open) : exec (.releaseWindow arg) s = .next
    { reevaluateStall (setWindow j { windowOf s j with hold := .open } s) with
      host := posted .ok (BitVec.ofNat 8 j.val) s.host } := by
  refine hostCommand_posted (body := releaseWindowCommand arg) opened fun p => ?_
  rw [releaseWindowCommand_held (s := s.setHost p) names held]
  exact congrArg (fun t => Reply.mk t _ _)
    (reevaluateStall_setHost (setWindow j { windowOf s j with hold := .open } s) p)

end

theorem exec_popNotify_pops {s : State} {r : NotifyRecord} {rest : List NotifyRecord} (opened : WriteOpen 0x004 s)
    (queue : s.hold.queue = r :: rest) : exec .popNotify s = .next
      { reevaluateStall (s.setHold { s.hold with queue := rest }) with host := posted .ok r.sequence s.host } := by
  refine hostCommand_posted (body := popNotifyCommand) opened fun p => ?_
  rw [popNotifyCommand_pops (s := s.setHost p) queue]
  exact congrArg (fun t => Reply.mk t _ _) (reevaluateStall_setHost (s.setHold { s.hold with queue := rest }) p)

/-- The part once the stall for window i has ended with PROCEED, from the state t that the command left. -/
def proceeded (s t : State) (h : HostPort) (i : Fin 8) (reserved : Bool) (r : Responder) : State :=
  { t with
    host := h
    windows := tset t.windows i { windowOf t i with inFrame := true }
    hold := { t.hold with
      stallTimer := none, stallWindow := none, reasonHeld := false, reasonFull := false
      reservation := s.hold.reservation || reserved }
    line := lineAfterStall s.responder.driveSbck s.line
    responder := claimsAfterStall s.responder.driveSbck .proceed r }

/-- A command that ends with the reasons found again on the state t, which differs from the one before it in windows and in the notify queue alone. -/
theorem found_again {s t : State} {c : Instr} {h : HostPort} {i : Fin 8} (stalling : s.responder.st = .stalling)
    (window : s.hold.stallWindow = some i) (next : exec c s = .next { reevaluateStall t with host := h })
    (responder : t.responder = s.responder) (page : t.page = s.page) (line : t.line = s.line)
    (stallWindow : t.hold.stallWindow = s.hold.stallWindow) (reservation : t.hold.reservation = s.hold.reservation) :
    ((windowOf t i).hold = .held ∨ fullAt t i → exec c s = .next { t with
      host := h
      hold := { t.hold with reasonHeld := decide ((windowOf t i).hold = .held), reasonFull := decide (fullAt t i) } }) ∧
    ((windowOf t i).hold ≠ .held → ¬ fullAt t i →
      (frameKind s = some .read → exec c s = .next (proceeded s t h i false
        { s.responder with
          sendBuf := toBuffer 32 (s.page.readBytes ((windowOf t i).base.toNat + headerOffset s.responder.header)
            (frameLen s)) })) ∧
      (frameKind s = some .write → exec c s = .next (proceeded s t h i (windowOf t i).notify
        { s.responder with intake := Vector.replicate 32 0 }))) := by
  have stalling' : t.responder.st = .stalling := by rw [responder]; exact stalling
  have window' : t.hold.stallWindow = some i := stallWindow.trans window
  have kind : frameKind t = frameKind s := by unfold frameKind; rw [responder]
  have snapshot : snapshotBytes t i = toBuffer 32 (s.page.readBytes
      ((windowOf t i).base.toNat + headerOffset s.responder.header) (frameLen s)) := by
    unfold snapshotBytes frameLen
    rw [page, responder]
  refine ⟨fun reason => ?_, fun notHeld notFull => ⟨fun read => ?_, fun write => ?_⟩⟩
  · rw [next, reevaluateStall_goesOn stalling' window' reason]
  · rw [next, reevaluateStall_read stalling' window' (fun reason => reason.elim notHeld notFull) (kind.trans read), snapshot,
      responder, line]
    unfold proceeded
    rw [Bool.or_false, ← reservation]
    rfl
  · rw [next, reevaluateStall_write stalling' window' (fun reason => reason.elim notHeld notFull) (kind.trans write),
      responder, line, reservation]
    rfl

end Sys2Proof.Machine

/-! How a stall goes on and ends, at its timer and at the host's commands (R151, R153, R157 to R160, R162, R165). -/

namespace Sys2Proof.Machine

theorem windowOf_setWindow_same (i : Fin 8) (w : Window) (s : State) : windowOf (setWindow i w s) i = w := tget_tset_same _ _ _

theorem stallDue_iff (s : State) : stallDue s = true ↔ s.responder.st = .stalling ∧ s.hold.stallTimer = some 0 := by
  simp [stallDue]

theorem notifyLoad_pop {s : State} {r : NotifyRecord} {rest : List NotifyRecord} (queue : s.hold.queue = r :: rest)
    (full : s.hold.queue.length = 16) (free : s.hold.reservation = false) :
    notifyLoad { s.hold with queue := rest } = 15 := by
  rw [queue, List.length_cons] at full
  unfold notifyLoad
  rw [free]
  simp only [Bool.false_eq_true, if_false]
  omega

/-- Another hold state does not change whether NOTIFY_FULL holds. -/
theorem fullAt_setWindow (i : Fin 8) (h : HoldState) (s : State) :
    fullAt (setWindow i { windowOf s i with hold := h } s) i ↔ fullAt s i := by
  unfold fullAt
  rw [windowOf_setWindow_same]
  rfl

/-- The window that a stall is for proceeds, its own hold having changed. -/
theorem proceeded_setWindow (s : State) (h : HostPort) (i : Fin 8) (x : HoldState) (reserved : Bool) (r : Responder) :
    proceeded s (setWindow i { windowOf s i with hold := x } s) h i reserved r =
      { s with
        host := h
        windows := tset s.windows i { windowOf s i with hold := x, inFrame := true }
        hold := { s.hold with
          stallTimer := none, stallWindow := none, reasonHeld := false, reasonFull := false
          reservation := s.hold.reservation || reserved }
        line := lineAfterStall s.responder.driveSbck s.line
        responder := claimsAfterStall s.responder.driveSbck .proceed r } := by
  unfold proceeded
  rw [windowOf_setWindow_same]
  have twice (y : Window) : tset (setWindow i { windowOf s i with hold := x } s).windows i y = tset s.windows i y := tset_tset ..
  rw [twice]
  rfl

/-- Settles O45: the three commands by the reasons found again on the state after their own effect. -/
theorem stallsEnd : Obligations.StallsEnd := by
  refine ⟨?_, ?_, ?_⟩
  · intro s arg i stalling window w stallOver line claims full v
    refine ⟨fun due => ?_, fun opened names held => ?_, fun opened names enabled isOpen outside => ?_⟩
    · refine congrArg Host.Outcome.next ?_
      show stallExpires s = _
      unfold stallExpires
      rw [if_pos ((stallDue_iff s).mpr ⟨stalling, due⟩), endStall_eq]
      rfl
    · have releases := exec_releaseWindow_held opened names (by rw [held]; simp : (windowOf s i).hold ≠ .open)
      obtain ⟨goesOn, ends⟩ := found_again (t := setWindow i { w with hold := .open } s) stalling window releases rfl rfl rfl
        rfl rfl
      have notHeld : (windowOf (setWindow i { w with hold := .open } s) i).hold ≠ .held := by
        rw [windowOf_setWindow_same]
        simp
      have fullAgain : fullAt (setWindow i { w with hold := .open } s) i ↔ full := fullAt_setWindow i .open s
      refine ⟨fun read => ?_, fun write notFull => ?_, fun isFull => ?_⟩
      · have notFull : ¬ full := fun h => absurd (read.symm.trans h.1) (by simp)
        rw [(ends notHeld (fun h => notFull (fullAgain.mp h))).1 read, proceeded_setWindow, Bool.or_false,
          windowOf_setWindow_same]
        rfl
      · rw [(ends notHeld (fun h => notFull (fullAgain.mp h))).2 write, proceeded_setWindow, windowOf_setWindow_same]
        rfl
      · rw [goesOn (.inr (fullAgain.mpr isFull)), decide_eq_false notHeld, decide_eq_true (fullAgain.mpr isFull)]
        rfl
    · have holds := exec_holdWindow_held opened names enabled isOpen outside
      have isHeld : (windowOf (setWindow i { w with hold := .held } s) i).hold = .held := by
        rw [windowOf_setWindow_same]
      obtain ⟨goesOn, -⟩ := found_again (t := setWindow i { w with hold := .held } s) stalling window holds rfl rfl rfl rfl rfl
      rw [goesOn (.inl isHeld), decide_eq_true isHeld, decide_eq_decide.mpr (fullAt_setWindow i .held s)]
      rfl
  · intro s i r rest opened stalling window queue long free notify write proceeds
    obtain ⟨goesOn, ends⟩ := found_again (t := s.setHold { s.hold with queue := rest }) stalling window
      (exec_popNotify_pops opened queue) rfl rfl rfl rfl rfl
    have notFull : ¬ fullAt (s.setHold { s.hold with queue := rest }) i := by
      intro full
      have load : notifyLoad { s.hold with queue := rest } = 16 := full.2.2
      rw [notifyLoad_pop queue long free] at load
      omega
    refine ⟨fun notHeld => ?_, fun held => ?_⟩
    · have sets : (s.hold.reservation || (windowOf s i).notify) = true := by rw [notify, Bool.or_true]
      rw [(ends notHeld notFull).2 write]
      unfold proceeded
      rw [show windowOf (s.setHold { s.hold with queue := rest }) i = windowOf s i from rfl, sets]
      rfl
    · rw [goesOn (.inl held), decide_eq_true (show (windowOf (s.setHold { s.hold with queue := rest }) i).hold = .held from held),
        decide_eq_false notFull]
      rfl
  · intro s arg i opened stalling window foundAgain
    refine ⟨fun j names => ?_, fun r rest queue => ?_⟩
    · intro x answered
      refine ⟨fun enabled isOpen outside => ?_, fun enabled isOpen inFrame => ?_, fun held => ?_⟩
      · exact found_again (t := setWindow j { x with hold := .held } s) stalling window
          (exec_holdWindow_held opened names enabled isOpen outside) rfl rfl rfl rfl rfl
      · exact found_again (t := setWindow j { x with hold := .pending } s) stalling window
          (exec_holdWindow_pending opened names enabled isOpen inFrame) rfl rfl rfl rfl rfl
      · exact found_again (t := setWindow j { x with hold := .open } s) stalling window
          (exec_releaseWindow_held opened names held) rfl rfl rfl rfl rfl
    · exact found_again (t := s.setHold { s.hold with queue := rest }) stalling window
        (exec_popNotify_pops opened queue) rfl rfl rfl rfl rfl

end Sys2Proof.Machine

/-! PORT_ENABLE, PORT_DISABLE and RECOVER (R18, R131, R145, R170, R173, R174, R178). -/

namespace Sys2Proof.Machine

/-! ### PORT_ENABLE (R170, R173) -/

theorem portConfigValid_iff (c : Cfg) : portConfigValid c = true ↔
    c.ownAddr ≠ 0 ∧ c.ownAddr ≠ 255 ∧ 40 ≤ c.bitDiv.toNat ∧ c.bitDiv.toNat ≤ 1600 := by
  unfold portConfigValid
  simp only [Bool.and_eq_true, bne_iff_ne, decide_eq_true_eq, and_assoc]
  rfl

theorem portEnable_state {s : State} (h : s.port.state ≠ .disabled) : portEnable s = .unchanged s .portState 0 := if_pos h

theorem portEnable_config {s : State} (disabled : s.port.state = .disabled) (invalid : ¬ portConfigValid s.cfg = true) :
    portEnable s = .unchanged s .portConfig 0 := by
  unfold portEnable
  rw [if_neg (by simp [disabled]), if_neg invalid]

/-- The Line Monitor starts again ACTIVE, so no choice follows (R18, R48). -/
theorem portEnable_runs {s : State} (disabled : s.port.state = .disabled) (valid : portConfigValid s.cfg = true) :
    portEnable s = { state := portRunning s, code := .ok, value := 0 } := by
  have active : (portRunning s).line.state ≠ .quiet := fun quiet => nomatch quiet
  unfold portEnable
  rw [if_neg (by simp [disabled]), if_pos valid, choose_not_quiet active]

/-! ### PORT_DISABLE and RECOVER in other states -/

theorem portDisable_other {s : State} (h : s.port.state = .disabled ∨ s.port.state = .stopping ∨ s.port.state = .recovering) :
    portDisable s = .unchanged s .portState 0 := by
  rcases h with h | h | h <;> simp only [portDisable, h]

theorem recoverCommand_other {s : State} (h : s.port.state ≠ .fault) : recoverCommand s = .unchanged s .portState 0 :=
  if_neg h

theorem recoverCommand_fault {s : State} (h : s.port.state = .fault) :
    recoverCommand s = { state := recoverBegin s, code := .started, value := 0 } := if_pos h

/-- A recovery that failed at its start, the port in FAULT as before. -/
def recoverRefused (s : State) : State :=
  { s with
    port := { s.port with
      pulses := 0, recovery := .none, left := 0, taken := false, driveSbck := false, driveSbdt := false }
    events := { s.events with flags := s.events.flags ||| 0x080 } }

/-- With SBCK low the recovery fails at once (R178, R180). -/
theorem recoverBegin_low {s : State} (fault : s.port.state = .fault) (low : s.line.sbck = false) :
    recoverBegin s = recoverRefused s := by
  unfold recoverBegin
  dsimp only
  rw [if_pos (by simp [low])]
  unfold recoveryFail Port.sequenceOver
  rw [← fault]
  rfl

/-- A recovery in its first low phase: a pulse, or with SBDT high the Stop phase at once. -/
def recoverStarted (s : State) : State :=
  { s with
    port := { s.port with
      state := .recovering, pulses := 0, driveSbck := true
      recovery := if s.line.sbdt then .stopLow else .pulseLow
      left := if s.line.sbdt then lowLen s / 2 else lowLen s }
    line := s.line.clockLow }

/-- With SBCK high the sequence begins (R179). -/
theorem recoverBegin_high {s : State} (high : s.line.sbck = true) : recoverBegin s = recoverStarted s := by
  unfold recoverBegin recoverStarted
  dsimp only
  rw [if_neg (by simp [high])]
  by_cases data : s.line.sbdt = true
  · rw [if_neg (by simp [data]), if_pos data, if_pos data]
    rfl
  · rw [if_pos (by simpa using data), if_neg data, if_neg data]
    rfl

/-- Settles O46: command by command, by the port's state. -/
theorem portCommands : Obligations.PortCommands := by
  intro s opened answered started valid
  refine ⟨fun other => ?_, fun disabled invalid => ?_, fun disabled isValid => ?_, fun running idle => ?_,
    fun running busy => ?_, fun fault => ⟨?_, fun low => ?_, fun high => ?_⟩, fun other => ?_, fun other => ?_⟩
  · exact hostCommand_answered (body := portEnable) opened fun p => portEnable_state (s := s.setHost p) other
  · exact hostCommand_answered (body := portEnable) opened fun p =>
      portEnable_config (s := s.setHost p) disabled fun h => invalid ((portConfigValid_iff _).mp h)
  · refine hostCommand_posted (body := portEnable) (t := portRunning s) opened fun p => ?_
    exact portEnable_runs (s := s.setHost p) disabled ((portConfigValid_iff _).mpr isValid)
  · exact portDisable_running opened running idle
  · exact portDisable_busy opened running busy
  · exact portDisable_fault opened fault
  · refine hostCommand_posted (body := recoverCommand) (t := recoverRefused s) opened fun p => ?_
    rw [recoverCommand_fault (s := s.setHost p) fault, recoverBegin_low (s := s.setHost p) fault low]
    rfl
  · refine hostCommand_posted (body := recoverCommand) (t := recoverStarted s) opened fun p => ?_
    rw [recoverCommand_fault (s := s.setHost p) fault, recoverBegin_high (s := s.setHost p) high]
    rfl
  · exact hostCommand_answered (body := portDisable) opened fun p => portDisable_other (s := s.setHost p) other
  · exact hostCommand_answered (body := recoverCommand) opened fun p => recoverCommand_other (s := s.setHost p) other

end Sys2Proof.Machine

/-! The recovery sequence, step by step (R179, R180). -/

namespace Sys2Proof.Machine

/-! ### The counts of the sequence (R179) -/

theorem exec_recoveryCount {s : State} (runs : s.port.recovery ≠ .none) :
    exec (.phaseCountEnd .controller) s = .next (recoveryCountEnd s) :=
  congrArg Host.Outcome.next (if_neg runs)

theorem recoveryEnds_here {s : State} {p : RecoveryPhase} (h : s.port.recovery = p) : recoveryEnds p s = recoveryCountEnd s :=
  if_pos h

theorem recoveryEnds_other {s : State} {p : RecoveryPhase} (h : s.port.recovery ≠ p) : recoveryEnds p s = s := if_neg h

theorem recoveryRises_other {s : State} {p : RecoveryPhase} (h : s.port.recovery ≠ p) : recoveryRises p s = s := if_neg h

/-- A pulse whose high phase runs: only its end is left. -/
theorem exec_recoveryPulse {s : State} (high : s.port.recovery = .pulseHigh) :
    exec .recoveryPulse s = .next (pulseDecide s) := by
  refine congrArg Host.Outcome.next ?_
  rw [recoveryEnds_other (p := .pulseLow) (by simp [high]), recoveryRises_other (p := .pulseRise) (by simp [high]),
    recoveryEnds_here high]
  simp only [recoveryCountEnd, high]

theorem pulseDecide_taken {s : State} (taken : s.port.taken = true) : pulseDecide s = startStop s := if_pos taken

theorem pulseDecide_again {s : State} (low : s.port.taken = false) (fewer : s.port.pulses < 16) : pulseDecide s = startPulse s := by
  unfold pulseDecide
  rw [if_neg (by simp [low])]
  exact if_pos fewer

theorem pulseDecide_last {s : State} (low : s.port.taken = false) (last : 16 ≤ s.port.pulses) : pulseDecide s = recoveryFail s := by
  unfold pulseDecide
  rw [if_neg (by simp [low])]
  exact if_neg (Nat.not_lt.mpr last)

/-- A line that did not rise in its time (R180). -/
theorem recoveryCountEnd_late {s : State}
    (late : s.port.recovery = .pulseRise ∨ s.port.recovery = .stopRise ∨ s.port.recovery = .stopEnd) :
    recoveryCountEnd s = recoveryFail s := by
  rcases late with h | h | h <;> simp only [recoveryCountEnd, h]

theorem recoveryFails_late {s : State}
    (late : s.port.recovery = .pulseRise ∨ s.port.recovery = .stopRise ∨ s.port.recovery = .stopEnd) :
    recoveryFails s = recoveryFail s := by
  rw [← recoveryCountEnd_late late]
  rcases late with h | h | h <;> simp only [recoveryFails, h]

/-! ### A rise and the Stop at the sequence (R179, R180) -/

theorem responderRise_between {s : State} (b : Bool) (h : s.responder.pos = .between) : responderRise b s = s := by
  simp only [responderRise, h]

/-- In RECOVERING a rise is the sequence's alone. -/
theorem exec_rise_recovering {s t : State} (low : s.line.sbck = false) (released : ownSbck s = false)
    (phase : s.engine.phase = .none) (pos : s.responder.pos = .between)
    (rises : recoveryRise s.line.sbdt (sbckHigh s) = t) (notRunning : t.port.state ≠ .running) :
    exec (.sbckRise true) s = .next t := by
  refine congrArg Host.Outcome.next ?_
  show riseEvent s = t
  unfold riseEvent
  rw [if_pos (by simp [canRise, low, released])]
  unfold clockRises
  rw [engineRise_none _ phase, responderRise_between (s := sbckHigh s) _ pos, rises, choose_not_running notRunning]

/-- The Stop on the bus makes the port RUNNING; the Line Monitor starts again, so no choice follows. -/
theorem recoverySucceed_eq (s : State) :
    recoverySucceed s = setEvent .recoveryDone (portRunning (s.setPort s.port.sequenceOver)) :=
  choose_not_quiet fun quiet => nomatch quiet

/-- What the Stop on the bus leaves (R18, R131, R180). -/
def recoveryOver (s : State) : State :=
  { s with
    port := { s.port with
      state := .running, recovery := .none, left := 0, taken := false, driveSbck := false, driveSbdt := false }
    line := s.line.restarted
    responder := { s.responder with st := .listening, pos := .between, high := .plain }
    events := { s.events with flags := s.events.flags ||| 0x040 } }

theorem portRunning_eq (s : State) : portRunning s =
    { s with
      port := { s.port with state := .running }
      line := s.line.restarted
      responder := { s.responder with st := .listening, pos := .between, high := .plain } } := rfl

theorem recoverySucceed_over (s : State) : recoverySucceed s = recoveryOver s := by
  rw [recoverySucceed_eq, portRunning_eq]
  rfl

theorem exec_recoveryDone {s : State} (ends : s.port.recovery = .stopEnd) (high : s.line.sbck = true)
    (low : s.line.sbdt = false) (released : ownSbdt s = false) (phase : s.engine.phase = .none)
    (off : s.responder.st = .off) : exec .recoveryDone s = .next (recoverySucceed (sbdtHigh s)) := by
  have left : recoveryStopLeft s = s := by
    unfold recoveryStopLeft
    rw [recoveryEnds_other (p := .stopLow) (by simp [ends]), recoveryEnds_other (p := .stopData) (by simp [ends]),
      recoveryRises_other (p := .stopRise) (by simp [ends]), recoveryEnds_other (p := .stopHalf) (by simp [ends])]
  have noEngine : engineStopSeen (sbdtHigh s) = sbdtHigh s := by
    have notOwn : (sbdtHigh s).engine.phase ≠ .stopWait := by
      show s.engine.phase ≠ .stopWait
      simp [phase]
    rw [engineStopSeen_condition notOwn, engineCondition_idle (s := sbdtHigh s) (.inl phase)]
  have succeeds : recoveryStop (sbdtHigh s) = recoverySucceed (sbdtHigh s) := if_pos ends
  have noChoice : choose (recoverySucceed (sbdtHigh s)) = recoverySucceed (sbdtHigh s) := by
    rw [recoverySucceed_eq]
    exact choose_not_quiet fun quiet => nomatch quiet
  refine congrArg Host.Outcome.next ?_
  rw [left, if_pos ends]
  unfold stopEvent
  rw [if_pos (by simp [high, low, released])]
  unfold stopSeen
  rw [noEngine, responderClose_off (s := sbdtHigh s) off, succeeds, noChoice]

/-- Settles O47: phase by phase. -/
theorem recoverySequence : Obligations.RecoverySequence := by
  intro s recovering delay release failed next
  have counts {p : RecoveryPhase} (at' : s.port.recovery = p) (runs : p ≠ .none) :=
    exec_recoveryCount (s := s) (by rw [at']; exact runs)
  refine ⟨fun high taken => ?_, fun high low fewer => ?_, fun high low last => ?_, fun late => ⟨?_, ?_⟩, fun here => ?_,
    fun here => ?_, fun here => ?_, fun here => ?_, fun low released phase off pos => ?_,
    fun ends high low released phase off => ?_⟩
  · rw [exec_recoveryPulse high, pulseDecide_taken taken]
    rfl
  · rw [exec_recoveryPulse high, pulseDecide_again low fewer]
    rfl
  · refine congrArg Host.Outcome.next ?_
    show recoveryFails s = recoveryFail s
    simp only [recoveryFails, high]
    rw [if_pos (by simp [low, Config.maxPulses, last])]
    simp only [recoveryCountEnd, high]
    exact pulseDecide_last low last
  · exact congrArg Host.Outcome.next (recoveryFails_late late)
  · rw [exec_recoveryCount (by rcases late with h | h | h <;> simp [h]), recoveryCountEnd_late late]
    rfl
  · rw [counts here (by simp)]
    simp only [recoveryCountEnd, here]
    rfl
  · rw [counts here (by simp)]
    simp only [recoveryCountEnd, here]
    rfl
  · rw [counts here (by simp)]
    simp only [recoveryCountEnd, here]
    rfl
  · rw [counts here (by simp)]
    simp only [recoveryCountEnd, here]
    rfl
  · intro rises
    have notRunning : s.port.state ≠ .running := by simp [recovering]
    refine ⟨fun here => exec_rise_recovering low released phase pos ?_ notRunning,
      fun here => exec_rise_recovering low released phase pos ?_ notRunning⟩
    · have here' : (sbckHigh s).port.recovery = .pulseRise := here
      simp only [recoveryRise, here']
      rfl
    · have here' : (sbckHigh s).port.recovery = .stopRise := here
      simp only [recoveryRise, here']
      rfl
  · rw [exec_recoveryDone ends high low released phase off, recoverySucceed_over]
    rfl

end Sys2Proof.Machine

/-! One REFCLK period with no command waiting: what each count does, and what none of them touches (R2, R19, R79, R132, R158, R168, R179; log 3). -/

namespace Sys2Proof.Machine

/-! ### The time base and the Host Port beside the other counts -/

/-- Neither the count of REFCLK periods nor the Host Port changed. -/
structure TimeKept (s t : State) : Prop where
  period : t.port.period = s.port.period
  host : t.host = s.host

theorem TimeKept.refl (s : State) : TimeKept s s := ⟨rfl, rfl⟩

theorem TimeKept.trans {s t u : State} (a : TimeKept s t) (b : TimeKept t u) : TimeKept s u :=
  ⟨b.period.trans a.period, b.host.trans a.host⟩

/-- A change of the lines or of the engine comes first. -/
theorem TimeKept.after {s t u : State} (h : TimeKept t u) (period : t.port.period = s.port.period := by rfl)
    (host : t.host = s.host := by rfl) : TimeKept s u := ⟨h.period.trans period, h.host.trans host⟩

theorem RequestFrame.timeKept {s t : State} (h : RequestFrame s t) : TimeKept s t := ⟨by rw [h.port], h.host⟩
theorem ResponderFrame.timeKept {s t : State} (h : ResponderFrame s t) : TimeKept s t := ⟨by rw [h.port], h.host⟩

theorem engineToIdle_timeKept (s : State) : TimeKept s (engineToIdle s) := by
  refine ⟨?_, (engineToIdle_frame s).host⟩
  unfold engineToIdle
  dsimp only
  split <;> rfl

theorem reportResult_timeKept (r : FrameResult) (s : State) : TimeKept s (reportResult r s) := by
  refine ⟨?_, (reportResult_frame r s).host⟩
  rcases reportResult_ends r s with ⟨k, f, u, -, -, -, port, eq⟩ | ⟨u, -, port, eq⟩
  · rw [eq, ← port]
    rfl
  · have after : (engineAfter r u).port.period = u.port.period := by
      cases r with
      | arbLost => exact (engineToIdle_timeKept u).period
      | busStuck => exact (engineToIdle_timeKept u).period
      | _ => rfl
    rw [eq, after, port]

theorem choose_timeKept (s : State) : TimeKept s (choose s) := (choose_frame s).timeKept
theorem responderStart_timeKept (s : State) : TimeKept s (responderStart s) := (responderStart_frame s).timeKept
theorem setEngine_timeKept (e : Engine) (s : State) : TimeKept s (s.setEngine e) := ⟨rfl, rfl⟩

theorem engineCondition_timeKept (s : State) : TimeKept s (engineCondition s) := by
  unfold engineCondition
  split
  · exact reportResult_timeKept _ s
  · exact .refl s

theorem startSeen_timeKept (s : State) : TimeKept s (startSeen s) :=
  ((engineCondition_timeKept (sbdtLow s)).trans (responderStart_timeKept _)).after

theorem responderSets_timeKept (s : State) : TimeKept s (responderSets s) := by
  cases counting : s.responder.delay with
  | none =>
    unfold responderSets
    rw [counting]
    exact .refl s
  | some d =>
    have level := (levelSet_frame s).timeKept
    rw [responderSets_counting counting]
    split
    · refine level.trans ?_
      unfold responderPulls
      split
      · exact .refl _
      · split
        · exact startSeen_timeKept _
        · exact ⟨rfl, rfl⟩
    · exact level

theorem delayPeriod_timeKept (s : State) : TimeKept s (delayPeriod s) := by
  unfold delayPeriod
  split
  · exact .refl s
  · split
    · exact responderSets_timeKept s
    · exact ⟨rfl, rfl⟩

theorem releasePeriod_timeKept (s : State) : TimeKept s (releasePeriod s) := by
  unfold releasePeriod
  split
  · exact .refl s
  · split
    · exact (responderReleases_frame s).timeKept
    · exact ⟨rfl, rfl⟩

theorem engineStartEvent_timeKept (s : State) : TimeKept s (engineStartEvent s) := by
  unfold engineStartEvent
  split
  · split
    · exact (responderStart_timeKept _).after
    · exact (reportResult_timeKept _ s).trans (choose_timeKept _)
  · exact .refl s

theorem bitEnds_timeKept (s : State) : TimeKept s (bitEnds s) := by
  unfold bitEnds
  split
  · exact .refl s
  · exact (setEngine_timeKept _ s).trans (reportResult_timeKept _ _)

theorem pullClock_timeKept (s : State) : TimeKept s (pullClock s) := ⟨rfl, rfl⟩

theorem leaveBoundary_timeKept (s : State) : TimeKept s (leaveBoundary s) := by
  rw [leaveBoundary_eq]
  exact ⟨rfl, rfl⟩

theorem engineFall_timeKept (s : State) : TimeKept s (engineFall s) := by
  unfold engineFall
  split
  · exact (bitEnds_timeKept s).trans (pullClock_timeKept _)
  · exact ⟨rfl, rfl⟩
  · exact (leaveBoundary_timeKept s).trans (pullClock_timeKept _)
  · exact (leaveBoundary_timeKept s).trans (pullClock_timeKept _)
  · exact (leaveBoundary_timeKept s).trans (pullClock_timeKept _)
  · exact pullClock_timeKept s
  · exact .refl s

theorem clockFalls_timeKept (s : State) : TimeKept s (clockFalls s) :=
  ((engineFall_timeKept (sbckLow s)).trans (responderFall_frame _).timeKept).after

theorem engineMidpoint_timeKept (s : State) : TimeKept s (engineMidpoint s) := by
  have data : TimeKept s (engineSetsData s) := by
    unfold engineSetsData
    dsimp only
    split
    · exact ⟨rfl, rfl⟩
    · exact ⟨rfl, rfl⟩
    · split <;> exact ⟨rfl, rfl⟩
  exact data.trans (setEngine_timeKept _ _)

theorem engineCondHalf_timeKept (s : State) : TimeKept s (engineCondHalf s) := by
  unfold engineCondHalf
  dsimp only
  split
  · exact (responderStart_timeKept _).after
  · exact ⟨rfl, rfl⟩

theorem engineCountEnd_timeKept (s : State) : TimeKept s (engineCountEnd s) := by
  unfold engineCountEnd
  split
  · exact clockFalls_timeKept s
  · exact clockFalls_timeKept s
  · exact clockFalls_timeKept s
  · exact clockFalls_timeKept s
  · exact engineMidpoint_timeKept s
  · exact ⟨rfl, rfl⟩
  · exact engineCondHalf_timeKept s
  · exact ⟨rfl, rfl⟩
  all_goals exact .refl s

theorem enginePeriod_timeKept (s : State) : TimeKept s (enginePeriod s) := by
  unfold enginePeriod
  split
  · exact engineStartEvent_timeKept s
  · split
    · split
      · exact engineCountEnd_timeKept s
      · exact ⟨rfl, rfl⟩
    · exact .refl s

theorem pulseDecide_timeKept (s : State) : TimeKept s (pulseDecide s) := by
  unfold pulseDecide
  split
  · exact ⟨rfl, rfl⟩
  · split <;> exact ⟨rfl, rfl⟩

theorem recoveryCountEnd_timeKept (s : State) : TimeKept s (recoveryCountEnd s) := by
  unfold recoveryCountEnd
  split
  case h_3 => exact pulseDecide_timeKept s
  all_goals exact ⟨rfl, rfl⟩

theorem recoveryPeriod_timeKept (s : State) : TimeKept s (recoveryPeriod s) := by
  unfold recoveryPeriod
  split
  · exact .refl s
  · split
    · exact recoveryCountEnd_timeKept s
    · exact ⟨rfl, rfl⟩

theorem becomeQuiet_timeKept (s : State) : TimeKept s (becomeQuiet s) := by
  have closes : TimeKept s (responderClose (s.setLine { s.line with state := .quiet })) :=
    (responderClose_frame (s.setLine { s.line with state := .quiet })).timeKept.after
  unfold becomeQuiet
  dsimp only
  refine TimeKept.trans ?_ (choose_timeKept _)
  split
  · exact closes.trans (engineToIdle_timeKept _)
  · exact closes

theorem quietPeriod_timeKept (s : State) : TimeKept s (quietPeriod s) := by
  unfold quietPeriod
  split
  · split
    · exact ⟨rfl, rfl⟩
    · unfold quietTbCounted
      dsimp only
      split
      · exact (becomeQuiet_timeKept _).after
      · exact ⟨rfl, rfl⟩
  · exact .refl s

/-- After the time base no count of a REFCLK period touches it. -/
theorem clockPeriod_timeKept (s : State) : TimeKept (timeBasePeriod s) (clockPeriod s) :=
  ((((delayPeriod_timeKept _).trans (releasePeriod_timeKept _)).trans (enginePeriod_timeKept _)).trans
    (recoveryPeriod_timeKept _)).trans (quietPeriod_timeKept _)

theorem timeBasePeriod_counts {s : State} (more : s.port.period + 1 < 16000) :
    timeBasePeriod s = s.setPort { s.port with period := s.port.period + 1 } := if_pos more

theorem timeBasePeriod_ticks {s : State} (last : 16000 ≤ s.port.period + 1) : timeBasePeriod s = msTick s :=
  if_neg (Nat.not_lt.mpr last)

theorem timeBasePeriod_period (s : State) :
    (timeBasePeriod s).port.period = (if s.port.period + 1 < 16000 then s.port.period + 1 else 0) ∧
      (timeBasePeriod s).host = s.host := by
  by_cases more : s.port.period + 1 < 16000
  · rw [timeBasePeriod_counts more, if_pos more]
    exact ⟨rfl, rfl⟩
  · rw [timeBasePeriod_ticks (by omega), if_neg more]
    exact ⟨rfl, rfl⟩

end Sys2Proof.Machine

/-! What the part does with no command waiting (R2, R19, R79, R132, R158, R168, R179; log 3, 4, 14, 27). -/

namespace Sys2Proof.Machine

/-! ### A step of an empty queue -/

theorem step_idle {s : State} (empty : s.pending = []) : step s = .next (idle s) := by
  unfold step
  rw [empty]

theorem idle_due {s : State} {d : Due} (due : nextDue s = some d) : idle s = takeDue s d := by
  unfold idle
  rw [due]

theorem readTurn_iff (s : State) : readTurn s = true ↔ s.host.txn = .reading ∧ s.host.shifting = false := by
  simp [readTurn]

theorem idle_reads {s : State} (none : nextDue s = .none) (turn : s.host.txn = .reading) (shifted : s.host.shifting = false) :
    idle s = takeReadWord s := by
  unfold idle
  rw [none]
  exact if_pos ((readTurn_iff s).mpr ⟨turn, shifted⟩)

theorem idle_period {s : State} (none : nextDue s = .none) (other : s.host.txn ≠ .reading ∨ s.host.shifting = true) :
    idle s = clockPeriod (wordShifted s) := by
  have noTurn : ¬ readTurn s = true := by
    rw [readTurn_iff]
    rintro ⟨turn, shifted⟩
    rcases other with notReading | shifting
    · exact notReading turn
    · simp [shifted] at shifting
  unfold idle
  rw [none]
  exact if_neg noTurn

/-! ### The Responder's counts, period by period (R132, R158) -/

theorem delayPeriod_none {s : State} (none : s.responder.delay = .none) : delayPeriod s = s := by
  simp only [delayPeriod, none]

theorem delayPeriod_some {s : State} {n : Nat} (counts : s.responder.delay = some n) :
    delayPeriod s = if n ≤ 1 then responderSets s else s.setResponder { s.responder with delay := some (n - 1) } := by
  simp only [delayPeriod, counts]

theorem releasePeriod_none {s : State} (none : s.responder.release = .none) : releasePeriod s = s := by
  simp only [releasePeriod, none]

theorem releasePeriod_some {s : State} {n : Nat} (counts : s.responder.release = some n) : releasePeriod s =
    if n ≤ 1 then responderReleases s else s.setResponder { s.responder with release := some (n - 1) } := by
  simp only [releasePeriod, counts]

theorem commitNow_release (s : State) : (commitNow s).responder.release = s.responder.release := by
  have written (i : Fin 8) : (commitWrite i s).responder.release = s.responder.release := by
    unfold commitWrite
    dsimp only
    rw [endWindowFrame_responder]
    split <;> rfl
  unfold commitNow
  split
  · split
    · exact written _
    · rfl
  · rfl

/-- The change of SBDT starts no release of SBCK. -/
theorem responderSets_release {s : State} (none : s.responder.release = .none) : (responderSets s).responder.release = .none := by
  have level : (levelSet s).responder.release = .none := (commitNow_release s).trans none
  cases counting : s.responder.delay with
  | none =>
    unfold responderSets
    rw [counting]
    exact none
  | some d =>
    rw [responderSets_counting counting]
    split
    · unfold responderPulls
      split
      · exact level
      · split
        · refine responderStart_release ?_
          rw [(engineCondition_frame _).responder]
          exact level
        · exact level
    · exact level

theorem responderSets_none {s : State} (none : s.responder.delay = .none) : responderSets s = s := by
  simp only [responderSets, none]

/-! ### The engine's and the sequence's counts (R2, R79, R179) -/

theorem engineCounts_iff (s : State) : engineCounts s = true ↔ s.engine.phase ≠ .none ∧ s.engine.phase ≠ .startDue ∧
    s.engine.phase ≠ .waiting ∧ s.engine.phase ≠ .timeoutWait := by
  unfold engineCounts
  cases s.engine.phase <;> simp

theorem enginePeriod_start {s : State} (due : s.engine.phase = .startDue) : enginePeriod s = engineStartEvent s := if_pos due

theorem enginePeriod_still {s : State} (notDue : s.engine.phase ≠ .startDue) (still : ¬ engineCounts s = true) :
    enginePeriod s = s := by
  unfold enginePeriod
  rw [if_neg notDue, if_neg still]

theorem enginePeriod_counts {s : State} (counts : engineCounts s = true) : enginePeriod s =
    if s.engine.left ≤ 1 then engineCountEnd s else s.setEngine { s.engine with left := s.engine.left - 1 } := by
  have notDue : s.engine.phase ≠ .startDue := ((engineCounts_iff s).mp counts).2.1
  unfold enginePeriod
  rw [if_neg notDue, if_pos counts]

theorem recoveryPeriod_none {s : State} (none : s.port.recovery = .none) : recoveryPeriod s = s := if_pos none

theorem recoveryPeriod_runs {s : State} (runs : s.port.recovery ≠ .none) : recoveryPeriod s =
    if s.port.left ≤ 1 then recoveryCountEnd s else s.setPort { s.port with left := s.port.left - 1 } := if_neg runs

/-! ### The quiet timer (R19) -/

theorem quietCounts_iff (s : State) : (bothHigh s && s.line.state != .stuck) = true ↔
    s.line.sbck = true ∧ s.line.sbdt = true ∧ s.line.state ≠ .stuck := by
  simp [bothHigh, and_assoc]

theorem quietPeriod_still {s : State} (still : ¬ (bothHigh s && s.line.state != .stuck) = true) : quietPeriod s = s :=
  if_neg still

theorem quietPeriod_part {s : State} (counts : (bothHigh s && s.line.state != .stuck) = true)
    (part : s.line.quietPart + 1 < quietTbLen s.cfg) :
    quietPeriod s = s.setLine { s.line with quietPart := s.line.quietPart + 1 } := by
  unfold quietPeriod
  rw [if_pos counts, if_pos part]

theorem quietPeriod_whole {s : State} (counts : (bothHigh s && s.line.state != .stuck) = true)
    (whole : quietTbLen s.cfg ≤ s.line.quietPart + 1) : quietPeriod s = quietTbCounted s := by
  unfold quietPeriod
  rw [if_pos counts, if_neg (Nat.not_lt.mpr whole)]

/-- The line as a whole Tb of the quiet timer leaves it. -/
def Line.tbCounted (l : Line) : Line := { l with quietPart := 0, quietTb := min 128 (l.quietTb + 1) }

theorem quietTbCounted_eq (s : State) : quietTbCounted s =
    if s.line.state = .active ∧ quietTime s.cfg ≤ min 128 (s.line.quietTb + 1) then becomeQuiet (s.setLine s.line.tbCounted)
    else s.setLine s.line.tbCounted := rfl

/-- Settles O3: the three cases of an empty queue, and each count by its own equation. -/
theorem emptyQueueStep : Obligations.EmptyQueueStep := by
  refine ⟨fun s empty => ⟨fun d due => ?due, fun none turn shifted => ?read, fun none other => ?period⟩,
    fun s => ⟨rfl, timeBasePeriod_counts, fun last => congrArg Host.Outcome.next (timeBasePeriod_ticks last).symm,
      delayPeriod_none, fun n counts => ⟨fun more => ?delayMore, fun last release => ?delayLast⟩, releasePeriod_none,
      fun n counts => ⟨fun more => ?releaseMore, fun last delay => ?releaseLast⟩,
      fun due => congrArg Host.Outcome.next (enginePeriod_start due).symm, fun still => ?engineStill,
      fun phase notDue waits timeout => ⟨fun more => ?engineMore, fun last recovery => ?engineLast⟩, recoveryPeriod_none,
      fun runs => ⟨fun more => ?recoveryMore, fun last => ?recoveryLast⟩, fun still => ?quietStill,
      fun sbck sbdt notStuck => ?quiet⟩⟩
  case due => rw [step_idle empty, idle_due due]
  case read => rw [step_idle empty, idle_reads none turn shifted]
  case period =>
    obtain ⟨period, host⟩ := clockPeriod_timeKept (wordShifted s)
    obtain ⟨counted, same⟩ := timeBasePeriod_period (wordShifted s)
    exact ⟨clockPeriod (wordShifted s), by rw [step_idle empty, idle_period none other], rfl,
      (clockPeriod_moves (wordShifted s)).pending.trans empty, period.trans counted,
      congrArg HostPort.shifting (host.trans same)⟩
  case delayMore =>
    rw [delayPeriod_some counts, if_neg (by omega)]
    rfl
  case delayLast =>
    refine congrArg Host.Outcome.next ?_
    show responderReleases (responderSets s) = delayPeriod s
    rw [delayPeriod_some counts, if_pos last, responderReleases_none (responderSets_release release)]
  case releaseMore =>
    rw [releasePeriod_some counts, if_neg (by omega)]
    rfl
  case releaseLast =>
    refine congrArg Host.Outcome.next ?_
    show responderReleases (responderSets s) = releasePeriod s
    rw [releasePeriod_some counts, if_pos last, responderSets_none delay]
  case engineStill =>
    refine enginePeriod_still ?_ ?_
    · rcases still with h | h | h <;> simp [h]
    · rw [engineCounts_iff]
      rcases still with h | h | h <;> simp [h]
  case engineMore =>
    rw [enginePeriod_counts ((engineCounts_iff s).mpr ⟨phase, notDue, waits, timeout⟩), if_neg (by omega)]
    rfl
  case engineLast =>
    rw [exec_controllerCount recovery, enginePeriod_counts ((engineCounts_iff s).mpr ⟨phase, notDue, waits, timeout⟩), if_pos last]
  case recoveryMore =>
    rw [recoveryPeriod_runs runs, if_neg (by omega)]
    rfl
  case recoveryLast => rw [exec_recoveryCount runs, recoveryPeriod_runs runs, if_pos last]
  case quietStill =>
    refine quietPeriod_still fun counts => ?_
    obtain ⟨sbck, sbdt, notStuck⟩ := (quietCounts_iff s).mp counts
    rcases still with h | h | h
    · simp [h] at sbck
    · simp [h] at sbdt
    · exact notStuck h
  case quiet =>
    intro tb count
    have counts := (quietCounts_iff s).mpr ⟨sbck, sbdt, notStuck⟩
    have whole (enough : tb ≤ s.line.quietPart + 1) : quietPeriod s = _ :=
      (quietPeriod_whole counts enough).trans (quietTbCounted_eq s)
    refine ⟨fun part => quietPeriod_part counts part, fun enough short => ?_, fun enough active long => ?_⟩
    · rw [whole enough, if_neg ?_]
      · rfl
      · rintro ⟨active, long⟩
        rcases short with quiet | below
        · simp [quiet] at active
        · exact absurd below (Nat.not_lt.mpr long)
    · rw [whole enough, if_pos ⟨active, long⟩]
      rfl

end Sys2Proof.Machine

/-! What the Responder takes at a rise of SBCK past the header, and what a fall sets in motion (R5, R8, R101, R132, R133, R137, R140 to R143). -/

namespace Sys2Proof.Machine

/-! ### Rises (R5, R132, R137, R140, R141) -/

theorem responderRise_boundary {s : State} (b : Bool) (h : s.responder.pos = .boundary) :
    responderRise b s = s.setResponder { s.responder with high := .condition } := by
  simp only [responderRise, h]

section
variable {s : State} {b : Bool} {n : Nat} (pos : s.responder.pos = .within n)
include pos

theorem responderRise_stalling (st : s.responder.st = .stalling) :
    responderRise b s = s.setResponder { s.responder with pos := .within (n + 1) } := by
  simp only [responderRise, pos, st]

theorem responderRise_claimFirst (st : s.responder.st = .claiming) (first : n + 1 = 36) :
    responderRise b s = s.setResponder { s.responder with pos := .within (n + 1), claimFirst := b } := by
  simp only [responderRise, pos, st]
  exact if_pos first

theorem responderRise_sending (st : s.responder.st = .sending) : responderRise b s =
    sendingBit (n + 1) (sentBit n s) (s.setResponder { s.responder with pos := .within (n + 1) }) := by
  simp only [responderRise, pos, st]

theorem responderRise_passive (st : s.responder.st = .passive) : responderRise b s =
    passiveBit (n + 1) b (s.setResponder { s.responder with pos := .within (n + 1) }) := by
  simp only [responderRise, pos, st]

end

/-- A bit that the Responder sent: a body bit enters the check, and after the last check bit it confirms. -/
theorem sendingBit_eq {s : State} {b : Bool} {n : Nat} (st : s.responder.st = .sending) (start : 37 ≤ n) :
    sendingBit (n + 1) b s = s.setResponder { s.responder with
      crc := if n < 37 + 8 * frameLen s then crcStep s.responder.crc b else s.responder.crc
      st := if n + 1 = 45 + 8 * frameLen s then .confirming else .sending } := by
  have covered : crcCovers (n + 1) (8 * frameLen s) = true ↔ n < 37 + 8 * frameLen s := by
    rw [crcCovers_iff]
    omega
  unfold sendingBit
  dsimp only
  by_cases body : n < 37 + 8 * frameLen s
  · rw [if_pos (covered.mpr body), if_pos body, if_neg (by omega), if_neg (by omega), ← st]
  · rw [if_neg (fun h => body (covered.mp h)), if_neg body]
    split
    · rfl
    · rw [← st]
      rfl

theorem sentBit_body {s : State} {n : Nat} (body : n < 37 + 8 * frameLen s) :
    sentBit n s = byteBit (bufferByte s.responder.sendBuf ((n - 37) / 8)) ((n - 37) % 8) := if_pos body

/-- A check bit before the last. -/
theorem receivingBit_check {s : State} {b : Bool} {p : Nat} (start : 37 + 8 * frameLen s < p) (before : p < 45 + 8 * frameLen s) :
    receivingBit p b s = s.setResponder { s.responder with check := shiftIn s.responder.check b } := by
  unfold receivingBit
  dsimp only
  rw [if_neg (by omega), if_neg (by omega)]

/-- The last check bit, and the check holds. -/
theorem receivingBit_verifies {s : State} {b : Bool} (holds : shiftIn s.responder.check b = s.responder.crc) :
    receivingBit (45 + 8 * frameLen s) b s = s.setResponder { s.responder with
      check := shiftIn s.responder.check b, st := .confirming, verified := true } := by
  have verified : (shiftIn s.responder.check b == s.responder.crc) = true := beq_iff_eq.mpr holds
  unfold receivingBit
  dsimp only
  rw [if_neg (by omega), if_pos rfl, if_pos holds, verified]
  rfl

theorem confirmingBit_write {s : State} (write : frameKind s = some .write) : confirmingBit s = s := by
  simp only [confirmingBit, write]

theorem passiveBit_first {s : State} {b : Bool} {p : Nat} (first : p = 36) :
    passiveBit p b s = s.setResponder { s.responder with claimFirst := b } := if_pos first

/-- The claim code that another node drove, or none did. -/
theorem passiveBit_second {s : State} {b : Bool} {p : Nat} (second : p = 37) : passiveBit p b s =
    let goes := frameGoesOn (frameKind s) (claimOfBits s.responder.claimFirst b)
    if goes then s.setResponder { s.responder with goesOn := goes }
    else frameOver (s.setResponder { s.responder with goesOn := goes }) := by
  unfold passiveBit
  dsimp only
  rw [if_neg (by omega), if_pos second]

theorem passiveBit_later {s : State} {b : Bool} {p : Nat} (later : 37 < p) :
    passiveBit p b s = if p = responderLast s then frameOver s else s := by
  unfold passiveBit
  dsimp only
  rw [if_neg (by omega), if_neg (by omega)]

theorem responderLast_goesOn {s : State} (goes : s.responder.goesOn = true) : responderLast s = 46 + 8 * frameLen s := by
  unfold responderLast frameLastBit
  rw [if_pos goes]

/-! ### Falls (R132, R137, R140, R142, R143) -/

theorem responderFall_claiming {s : State} (st : s.responder.st = .claiming) : responderFall s = s.setResponder
    { s.responder with delay := some Config.responderDelay, want := responderDrivesLow s, commits := false } := by
  simp only [responderFall, st]

/-- The two claim bits. -/
theorem responderDrivesLow_claim {s : State} {n : Nat} (st : s.responder.st = .claiming) (pos : s.responder.pos = .within n) :
    responderDrivesLow s = if n = 35 then !(claimBits s.responder.code).1
      else if n = 36 then !(claimBits s.responder.code).2 else false := by
  simp only [responderDrivesLow, pos, st]

theorem claimBits_first (c : ClaimCode) : (!(claimBits c).1) = decide (c = .proceed ∨ c = .busy) := by
  cases c <;> rfl

theorem claimBits_second (c : ClaimCode) : (!(claimBits c).2) = decide (c = .proceed ∨ c = .refuse) := by
  cases c <;> rfl

theorem responderFall_confirming {s : State} (st : s.responder.st = .confirming) : responderFall s =
    if s.responder.pos = .within (responderLast s) then responseOver s
    else s.setResponder { s.responder with
      delay := some Config.responderDelay, want := responderDrivesLow s, commits := responderCommits s } := by
  simp only [responderFall, st]

/-- In the low phase of the response slot ACCEPT is sent for a verified WRITE, with its commit. -/
theorem accepts_iff {s : State} {n : Nat} (st : s.responder.st = .confirming) (pos : s.responder.pos = .within n)
    (last : n + 1 = responderLast s) :
    responderDrivesLow s = decide (frameKind s = some .write ∧ s.responder.verified = true) ∧
      responderCommits s = decide (frameKind s = some .write ∧ s.responder.verified = true) := by
  have accepts : (frameKind s == some .write && s.responder.verified && n + 1 == responderLast s) =
      decide (frameKind s = some .write ∧ s.responder.verified = true) := by
    rw [Bool.eq_iff_iff]
    simp [last]
  constructor
  · simp only [responderDrivesLow, pos, st]
    exact accepts
  · simp only [responderCommits, pos, st]
    exact accepts

end Sys2Proof.Machine

/-! The Responder's bits, rise by rise and fall by fall (R5, R8, R101, R132, R133, R137, R140 to R143). -/

namespace Sys2Proof.Machine

/-- Bit 35 of the engine's own frame: the engine opens its claim slot, and the Responder follows in PASSIVE. -/
theorem exec_rise_ownHeader {s : State} {b : Bool} (comes : RiseComes s b) (waits : s.engine.phase = .waiting)
    (header : s.engine.st = .header) (place : s.engine.pos = .within 34) (sent : s.engine.sent = some b)
    (decoding : s.responder.st = .decoding) (pos : s.responder.pos = .within 34) :
    exec (.sbckRise true) s = .next
      { risen s with
        engine := { s.engine with
          waitTimer := none, pos := .within 35, phase := .high, left := s.cfg.bitDiv.toNat / 2, sent := none,
          crc := crcStep s.engine.crc b, st := .claim }
        responder := { s.responder with
          pos := .within 35, header := headerShift s.responder.header b, crc := crcStep s.responder.crc b, check := 0,
          verified := false, st := .passive, window := none } } := by
  let t : State := (risen s).setEngine { s.engine with
    waitTimer := none, pos := .within 35, phase := .high, left := s.cfg.bitDiv.toNat / 2, sent := none,
    crc := crcStep s.engine.crc b, st := .claim }
  have engine : engineTakeBit b (risen s) = t := by
    rw [engineTakeBit_header (s := risen s) place (by omega) (.inr sent), afterBit_header (p := 35) ?_ rfl, if_pos rfl]
    · rfl
    · exact header
  rw [exec_rise_bit comes waits (by simp [header]) (by simp [header]), engine, responderRise_decoding (s := t) decoding pos]
  rfl

/-- Settles O60: by the Responder's state and its place in the frame. -/
theorem responderBits : Obligations.ResponderBits := by
  refine ⟨⟨fun s b comes phase => ?rise,
    fun s b comes waits header place sent decoding pos => exec_rise_ownHeader comes waits header place sent decoding pos⟩,
    fun s high phase => ?fall⟩
  case rise =>
    intro line takes atEnd
    have rises {r : Responder} (to_ : responderRise b (sbckHigh s) = (sbckHigh s).setResponder r) : takes r := by
      show exec (.sbckRise true) s = _
      rw [exec_rise_follower comes phase, to_]
      rfl
    refine ⟨fun pos => rises (responderRise_boundary b pos), fun pos => rises (responderRise_between b pos),
      fun n pos => ?_⟩
    intro r
    let t : State := (sbckHigh s).setResponder r
    refine ⟨fun st => ?stalling, fun st first => ?claimFirst, fun st start below => ?sending,
      fun st start => ⟨fun before => ?check, fun last holds => ?verifies⟩, fun st write => ?confirming,
      fun st => ⟨fun first => ?first, fun second => ?second, fun start goes => ⟨fun before => ?follows, fun last => ?ends⟩⟩⟩
    case stalling => exact rises (responderRise_stalling pos st)
    case claimFirst => exact rises (responderRise_claimFirst pos st first)
    case sending =>
      have bits : responderRise b (sbckHigh s) = sendingBit (n + 1) (sentBit n s) t := responderRise_sending pos st
      refine rises ?_
      rw [bits, sendingBit_eq (s := t) st start]
      by_cases body : n < 37 + 8 * frameLen s
      · rw [sentBit_body body]
        rfl
      · have body' : ¬ n < 37 + 8 * frameLen t := body
        rw [if_neg body', if_neg body]
        rfl
    case check =>
      have bits : responderRise b (sbckHigh s) = receivingBit (n + 1) b t := responderRise_receiving st pos
      refine rises ?_
      rw [bits, receivingBit_check (s := t)]
      · rfl
      · exact Nat.lt_succ_of_le start
      · exact before
    case verifies =>
      have bits : responderRise b (sbckHigh s) = receivingBit (n + 1) b t := responderRise_receiving st pos
      refine rises ?_
      rw [bits, last]
      exact receivingBit_verifies (s := t) holds
    case confirming =>
      have bits : responderRise b (sbckHigh s) = confirmingBit t := responderRise_confirming st pos
      exact rises (bits.trans (confirmingBit_write (s := t) write))
    case first =>
      have bits : responderRise b (sbckHigh s) = passiveBit (n + 1) b t := responderRise_passive pos st
      exact rises (bits.trans (passiveBit_first first))
    case second =>
      have bits : responderRise b (sbckHigh s) = passiveBit (n + 1) b t := responderRise_passive pos st
      intro body proceeds
      have goes : frameGoesOn (frameKind t) (claimOfBits t.responder.claimFirst b) = true ↔ proceeds := frameGoesOn_iff _ _
      refine ⟨fun is => rises ?_, fun isNot => rises ?_⟩
      · rw [bits, passiveBit_second second]
        dsimp only
        rw [goes.mpr is, if_pos rfl]
        rfl
      · rw [bits, passiveBit_second second]
        dsimp only
        rw [Bool.eq_false_iff.mpr fun h => isNot (goes.mp h), if_neg Bool.false_ne_true]
        rfl
    case follows =>
      have bits : responderRise b (sbckHigh s) = passiveBit (n + 1) b t := responderRise_passive pos st
      have last : responderLast t = 46 + 8 * frameLen s := responderLast_goesOn goes
      refine rises ?_
      rw [bits, passiveBit_later (by omega), if_neg (by omega)]
    case ends =>
      have bits : responderRise b (sbckHigh s) = passiveBit (n + 1) b t := responderRise_passive pos st
      have isLast : responderLast t = 46 + 8 * frameLen s := responderLast_goesOn goes
      refine rises ?_
      rw [bits, passiveBit_later (by omega), if_pos (by omega)]
      rfl
  case fall =>
    intro low falls released
    let t : State := { s with line := s.line.clockLow }
    have drops : exec .sbckFall s = .next (responderFall t) := exec_fall_follower high phase
    have falls_ {r : Responder} (to_ : responderFall t = t.setResponder r) : falls r := by
      show exec .sbckFall s = _
      rw [drops, to_]
      rfl
    refine ⟨fun n st pos => ⟨fun first => ?_, fun second => ?_⟩, fun st goes => ⟨fun pos => ?_, fun pos => ?_⟩, fun st => ?_⟩
    · have want := responderDrivesLow_claim (s := t) st pos
      rw [if_pos first, claimBits_first] at want
      refine falls_ ?_
      rw [responderFall_claiming (s := t) st, want]
      rfl
    · have want := responderDrivesLow_claim (s := t) st pos
      rw [if_neg (by omega), if_pos second, claimBits_second] at want
      refine falls_ ?_
      rw [responderFall_claiming (s := t) st, want]
      rfl
    · intro accepts
      have last : responderLast t = 46 + 8 * frameLen s := responderLast_goesOn goes
      obtain ⟨want, commits⟩ := accepts_iff (s := t) st pos (by omega)
      have before : ¬ t.responder.pos = .within (responderLast t) := by
        rw [last]
        intro same
        have := FramePos.within.inj (pos.symm.trans same)
        omega
      refine falls_ ?_
      rw [responderFall_confirming (s := t) st, if_neg before, want, commits]
      rfl
    · intro atEnd
      have last : responderLast t = 46 + 8 * frameLen s := responderLast_goesOn goes
      have ends : responderFall t = responseOver t := by
        rw [responderFall_confirming (s := t) st, if_pos (by rw [last]; exact pos)]
      refine ⟨fun out => ?_, fun i own inFrame => ?_⟩
      · refine falls_ ?_
        rw [ends]
        unfold responseOver
        rw [dropFrame_ended (s := t) out]
        rfl
      · intro w
        rw [drops, ends]
        unfold responseOver
        rw [dropFrame_inFrame (s := t) own inFrame, endWindowFrame_inFrame ?_]
        · rfl
        · exact inFrame
    · intro quits
      have takes := responderFall_takes (s := t) st
      refine ⟨fun pos condition => ?_, fun other => ?_⟩
      · rw [if_pos ⟨pos, condition⟩] at takes
        exact falls_ takes
      · rw [if_neg fun both => other.elim (absurd both.1) (absurd both.2)] at takes
        exact falls_ takes

end Sys2Proof.Machine
